-- ==== Sys2Proof/Word.lean ====
section
/-! DEFINITION. The words of ARMSIM-CORE and its register index. -/

namespace Sys2Proof

/-- Bits32 (00_scope.md R10): a register value, an ALU operand, the pc, an A32 word. -/
abbrev Word := BitVec 32

/-- A T16 halfword (30_encoding.md R73). -/
abbrev Half := BitVec 16

/-- One byte of the data space or of a program image (20_memory.md R50). -/
abbrev Byte := BitVec 8

/-- A register index, 0 to 15 (10_state.md R20). -/
abbrev Reg := Fin 16

end Sys2Proof
end

