-- ==== Sys2Proof/Config.lean ====
section
/-! DEFINITION. The implementation parameters that the spec fixes (00_scope.md R6, R7).
The spec leaves no value free, so this file holds no opaque constant. `MAX_CYCLES` is a parameter
of a run and stands in State (log entry 4). -/

namespace Sys2Proof.Config

/-- `MEM_BYTES` (R6): the size of the data space. -/
def memBytes : Nat := 65536

/-- The largest in-range effective address of a 4-byte access (20_memory.md R56). -/
def lastWordAddress : Nat := 0xFFFC

/-- The default of `MAX_CYCLES` (R6, R8). -/
def defaultMaxCycles : Nat := 100

/-- The largest program image (10_state.md R31; 92_eei_decisions.md D11). -/
def maxImageBytes : Nat := 2 ^ 31

/-- The stack register that some T16 forms name implicitly (10_state.md R24). -/
def stackRegister : Reg := 13

/-- The link register (10_state.md R22). -/
def linkRegister : Reg := 14

/-- The fixed distance from a BL to its link (42_branch.md R181). -/
def linkDistance : Word := 4

end Sys2Proof.Config
end

