-- ==== Sys2Proof/Syntax.lean ====
section
/-! DEFINITION. Code units, instructions (one constructor for each row of spec/opcode_table.json) and
instruction records (10_state.md R32). -/

namespace Sys2Proof

/-- An instruction's size in bytes, 2 or 4 (10_state.md R32, R33). -/
inductive Size where
  | two
  | four
  deriving DecidableEq, Repr

/-- One encoded unit: an A32 word or a T16 halfword (30_encoding.md R70). -/
inductive CodeUnit where
  | a32 (w : Word)
  | t16 (h : Half)
  deriving DecidableEq, Repr

/-- The instructions. Each constructor is one row of the opcode table, and its arguments are the
fields that the row leaves open, named as in 30_encoding.md. -/
inductive Instr where
  -- A32 data processing, immediate second operand (R79)
  | andImmA32 (rd rn rot : BitVec 4) (imm8 : BitVec 8)
  | eorImmA32 (rd rn rot : BitVec 4) (imm8 : BitVec 8)
  | subImmA32 (rd rn rot : BitVec 4) (imm8 : BitVec 8)
  | subsImmA32 (rd rn rot : BitVec 4) (imm8 : BitVec 8)
  | addImmA32 (rd rn rot : BitVec 4) (imm8 : BitVec 8)
  | addsImmA32 (rd rn rot : BitVec 4) (imm8 : BitVec 8)
  | orrImmA32 (rd rn rot : BitVec 4) (imm8 : BitVec 8)
  | movImmA32 (rd rot : BitVec 4) (imm8 : BitVec 8)
  | movsImmA32 (rd rot : BitVec 4) (imm8 : BitVec 8)
  | cmpImmA32 (rn rot : BitVec 4) (imm8 : BitVec 8)
  -- A32 data processing, register second operand (R80)
  | andRegA32 (rd rn rm : BitVec 4)
  | eorRegA32 (rd rn rm : BitVec 4)
  | subRegA32 (rd rn rm : BitVec 4)
  | subsRegA32 (rd rn rm : BitVec 4)
  | addRegA32 (rd rn rm : BitVec 4)
  | addsRegA32 (rd rn rm : BitVec 4)
  | orrRegA32 (rd rn rm : BitVec 4)
  | movRegA32 (rd rm : BitVec 4)
  | movsRegA32 (rd rm : BitVec 4)
  | cmpRegA32 (rn rm : BitVec 4)
  -- A32 load and store (R83); `up` is the bit U
  | ldrA32 (up : BitVec 1) (rd rn : BitVec 4) (imm12 : BitVec 12)
  | strA32 (up : BitVec 1) (rd rn : BitVec 4) (imm12 : BitVec 12)
  -- A32 branches (R84, R85)
  | bA32 (imm24 : BitVec 24)
  | blA32 (imm24 : BitVec 24)
  | bxA32 (rm : BitVec 4)
  -- T16 data processing (R101 to R112)
  | movsImm8T16 (rd : BitVec 3) (imm8 : BitVec 8)
  | cmpImm8T16 (rn : BitVec 3) (imm8 : BitVec 8)
  | addsImm8T16 (rdn : BitVec 3) (imm8 : BitVec 8)
  | subsImm8T16 (rdn : BitVec 3) (imm8 : BitVec 8)
  | addsRegT16 (rd rn rm : BitVec 3)
  | subsRegT16 (rd rn rm : BitVec 3)
  | addsImm3T16 (rd rn imm3 : BitVec 3)
  | subsImm3T16 (rd rn imm3 : BitVec 3)
  | movsRegT16 (rd rm : BitVec 3)
  | cmpRegT16 (rn rm : BitVec 3)
  | addRegT16 (rdn rm : BitVec 4)
  | movRegT16 (rd rm : BitVec 4)
  -- T16 branch-exchange (R113)
  | bxT16 (rm : BitVec 4)
  -- T16 loads and stores (R114 to R117)
  | strImm5T16 (rt rn : BitVec 3) (imm5 : BitVec 5)
  | ldrImm5T16 (rt rn : BitVec 3) (imm5 : BitVec 5)
  | strSpT16 (rt : BitVec 3) (imm8 : BitVec 8)
  | ldrSpT16 (rt : BitVec 3) (imm8 : BitVec 8)
  -- T16 stack-pointer arithmetic (R118 to R120)
  | addRdSpT16 (rd : BitVec 3) (imm8 : BitVec 8)
  | addSpSpT16 (imm7 : BitVec 7)
  | subSpSpT16 (imm7 : BitVec 7)
  -- T16 branch (R121)
  | bT16 (imm11 : BitVec 11)
  -- the fallback row (R75, R183): the whole unit, which carries the size and the raw bits
  | unknown (unit : CodeUnit)
  deriving DecidableEq, Repr

/-- The second operand of a data-processing record (10_state.md R32). -/
inductive Src2 where
  | imm (value : Word)
  | reg (rm : Reg)
  deriving DecidableEq, Repr

/-- The op of a record with exactly the operand fields that the op requires (10_state.md R32). -/
inductive Op where
  | add (rd rn : Reg) (src2 : Src2)
  | adds (rd rn : Reg) (src2 : Src2)
  | sub (rd rn : Reg) (src2 : Src2)
  | subs (rd rn : Reg) (src2 : Src2)
  | and (rd rn : Reg) (src2 : Src2)
  | orr (rd rn : Reg) (src2 : Src2)
  | eor (rd rn : Reg) (src2 : Src2)
  | mov (rd : Reg) (src2 : Src2)
  | movs (rd : Reg) (src2 : Src2)
  | cmp (rn : Reg) (src2 : Src2)
  | ldr (rd rn : Reg) (imm : Int)
  | str (rd rn : Reg) (imm : Int)
  | b (offset : Int)
  | bl (offset : Int)
  | bx (rm : Reg)
  | unknown
  deriving DecidableEq, Repr

/-- An instruction record: the tagged union of 10_state.md R32, with `size` and `raw`. -/
structure Record where
  size : Size
  raw : Word
  op : Op
  deriving DecidableEq, Repr

end Sys2Proof
end

