-- ==== Sys2Proof/Decode.lean ====
section
/-! DEFINITION. The decoder (30_encoding.md): byte order, the table's rows, field extraction, the two unit
decoders, the image decoder with its errors, then the encoder and the record view. Decoding is total on every
unit (R75), and an image is refused by name (R71). -/

namespace Sys2Proof

/-! ### Byte order (20_memory.md R52, R53) -/

/-- A field placed with its least significant bit at `lo` in a unit of `w` bits. -/
def place {n : Nat} (w : Nat) (field : BitVec n) (lo : Nat) : BitVec w := field.setWidth w <<< lo

/-- The little-endian word whose first byte is `b0`. Data words and A32 words share this layout. -/
def wordOfBytes (b0 b1 b2 b3 : Byte) : Word :=
  place 32 b0 0 ||| place 32 b1 8 ||| place 32 b2 16 ||| place 32 b3 24

/-- The little-endian halfword whose first byte is `b0` (R53). -/
def halfOfBytes (b0 b1 : Byte) : Half := place 16 b0 0 ||| place 16 b1 8

/-- Byte `k` of a word, counted from the least significant (R52). -/
def wordByte (w : Word) (k : Nat) : Byte := w.extractLsb' (8 * k) 8

/-! ### Sizes and raw bits (10_state.md R32, R33) -/

def Size.bytes : Size → Nat
  | .two => 2
  | .four => 4

def CodeUnit.size : CodeUnit → Size
  | .a32 _ => .four
  | .t16 _ => .two

/-- The encoded bits, a halfword being zero-extended to 32 bits (R32). -/
def CodeUnit.raw : CodeUnit → Word
  | .a32 w => w
  | .t16 h => h.setWidth 32

/-! ### Operand fields -/

/-- A 4-bit register field names any register. -/
def reg4 (field : BitVec 4) : Reg := field.toFin

/-- A 3-bit register field names `x[0]` to `x[7]` (R100). -/
def reg3 (field : BitVec 3) : Reg := ⟨field.toNat, by have := field.isLt; omega⟩

/-- `ROR32(v, n)` for `0 ≤ n < 32` (00_scope.md R10). -/
def ror32 (v : Word) (n : Nat) : Word := (v >>> n) ||| (v <<< (32 - n))

/-- The A32 modified immediate (R79). -/
def modifiedImm (rot : BitVec 4) (imm8 : BitVec 8) : Word := ror32 (imm8.setWidth 32) (2 * rot.toNat)

/-- A T16 immediate field times 4, as a word (R118 to R120). -/
def times4 {n : Nat} (imm : BitVec n) : Word := BitVec.ofNat 32 (4 * imm.toNat)

/-- The signed A32 load/store offset (R83): U = 1 adds the magnitude and U = 0 subtracts it. -/
def memOffset (up : BitVec 1) (imm12 : BitVec 12) : Int :=
  if up = 1#1 then (imm12.toNat : Int) else -(imm12.toNat : Int)

/-- `sext_26(imm24:'00')` (R84). -/
def branchOffsetA32 (imm24 : BitVec 24) : Int := (imm24 ++ 0b00#2).toInt

/-- `sext_12(imm11:'0')` (R121). -/
def branchOffsetT16 (imm11 : BitVec 11) : Int := (imm11 ++ 0b0#1).toInt

/-! ### Rows of the opcode table (R76) -/

/-- A row's mask and match. -/
structure Row (n : Nat) where
  mask : BitVec n
  pattern : BitVec n
  deriving DecidableEq, Repr

/-- A unit fits a row iff the masked unit is the row's match (R76). -/
def Row.fits {n : Nat} (r : Row n) (u : BitVec n) : Bool := u &&& r.mask == r.pattern

/-! ### The A32 rows of spec/opcode_table.json -/

def rowAndImmA32 : Row 32 := ⟨0xFFF00000, 0xE2000000⟩
def rowAndRegA32 : Row 32 := ⟨0xFFF00FF0, 0xE0000000⟩
def rowEorImmA32 : Row 32 := ⟨0xFFF00000, 0xE2200000⟩
def rowEorRegA32 : Row 32 := ⟨0xFFF00FF0, 0xE0200000⟩
def rowSubImmA32 : Row 32 := ⟨0xFFF00000, 0xE2400000⟩
def rowSubRegA32 : Row 32 := ⟨0xFFF00FF0, 0xE0400000⟩
def rowSubsImmA32 : Row 32 := ⟨0xFFF00000, 0xE2500000⟩
def rowSubsRegA32 : Row 32 := ⟨0xFFF00FF0, 0xE0500000⟩
def rowAddImmA32 : Row 32 := ⟨0xFFF00000, 0xE2800000⟩
def rowAddRegA32 : Row 32 := ⟨0xFFF00FF0, 0xE0800000⟩
def rowAddsImmA32 : Row 32 := ⟨0xFFF00000, 0xE2900000⟩
def rowAddsRegA32 : Row 32 := ⟨0xFFF00FF0, 0xE0900000⟩
def rowOrrImmA32 : Row 32 := ⟨0xFFF00000, 0xE3800000⟩
def rowOrrRegA32 : Row 32 := ⟨0xFFF00FF0, 0xE1800000⟩
def rowMovImmA32 : Row 32 := ⟨0xFFFF0000, 0xE3A00000⟩
def rowMovRegA32 : Row 32 := ⟨0xFFFF0FF0, 0xE1A00000⟩
def rowMovsImmA32 : Row 32 := ⟨0xFFFF0000, 0xE3B00000⟩
def rowMovsRegA32 : Row 32 := ⟨0xFFFF0FF0, 0xE1B00000⟩
def rowCmpImmA32 : Row 32 := ⟨0xFFF0F000, 0xE3500000⟩
def rowCmpRegA32 : Row 32 := ⟨0xFFF0FFF0, 0xE1500000⟩
def rowLdrA32 : Row 32 := ⟨0xFF700000, 0xE5100000⟩
def rowStrA32 : Row 32 := ⟨0xFF700000, 0xE5000000⟩
def rowBA32 : Row 32 := ⟨0xFF000000, 0xEA000000⟩
def rowBlA32 : Row 32 := ⟨0xFF000000, 0xEB000000⟩
def rowBxA32 : Row 32 := ⟨0xFFFFFFF0, 0xE12FFF10⟩

/-! ### The T16 rows of spec/opcode_table.json -/

def rowMovsImm8T16 : Row 16 := ⟨0xF800, 0x2000⟩
def rowCmpImm8T16 : Row 16 := ⟨0xF800, 0x2800⟩
def rowAddsImm8T16 : Row 16 := ⟨0xF800, 0x3000⟩
def rowSubsImm8T16 : Row 16 := ⟨0xF800, 0x3800⟩
def rowAddsRegT16 : Row 16 := ⟨0xFE00, 0x1800⟩
def rowSubsRegT16 : Row 16 := ⟨0xFE00, 0x1A00⟩
def rowAddsImm3T16 : Row 16 := ⟨0xFE00, 0x1C00⟩
def rowSubsImm3T16 : Row 16 := ⟨0xFE00, 0x1E00⟩
def rowMovsRegT16 : Row 16 := ⟨0xFFC0, 0x0000⟩
def rowCmpRegT16 : Row 16 := ⟨0xFFC0, 0x4280⟩
def rowAddRegT16 : Row 16 := ⟨0xFF00, 0x4400⟩
def rowMovRegT16 : Row 16 := ⟨0xFF00, 0x4600⟩
def rowBxT16 : Row 16 := ⟨0xFF87, 0x4700⟩
def rowStrImm5T16 : Row 16 := ⟨0xF800, 0x6000⟩
def rowLdrImm5T16 : Row 16 := ⟨0xF800, 0x6800⟩
def rowStrSpT16 : Row 16 := ⟨0xF800, 0x9000⟩
def rowLdrSpT16 : Row 16 := ⟨0xF800, 0x9800⟩
def rowAddRdSpT16 : Row 16 := ⟨0xF800, 0xA800⟩
def rowAddSpSpT16 : Row 16 := ⟨0xFF80, 0xB000⟩
def rowSubSpSpT16 : Row 16 := ⟨0xFF80, 0xB080⟩
def rowBT16 : Row 16 := ⟨0xF800, 0xE000⟩

/-- The 25 A32 rows (R76, R78, R83 to R85). -/
def rowsA32 : List (Row 32) :=
  [rowAndImmA32, rowAndRegA32, rowEorImmA32, rowEorRegA32, rowSubImmA32] ++
  [rowSubRegA32, rowSubsImmA32, rowSubsRegA32, rowAddImmA32, rowAddRegA32] ++
  [rowAddsImmA32, rowAddsRegA32, rowOrrImmA32, rowOrrRegA32, rowMovImmA32] ++
  [rowMovRegA32, rowMovsImmA32, rowMovsRegA32, rowCmpImmA32, rowCmpRegA32] ++
  [rowLdrA32, rowStrA32, rowBA32, rowBlA32, rowBxA32]

/-- The 21 T16 rows (R76, R100). -/
def rowsT16 : List (Row 16) :=
  [rowMovsImm8T16, rowCmpImm8T16, rowAddsImm8T16, rowSubsImm8T16, rowAddsRegT16] ++
  [rowSubsRegT16, rowAddsImm3T16, rowSubsImm3T16, rowMovsRegT16, rowCmpRegT16] ++
  [rowAddRegT16, rowMovRegT16, rowBxT16, rowStrImm5T16, rowLdrImm5T16] ++
  [rowStrSpT16, rowLdrSpT16, rowAddRdSpT16, rowAddSpSpT16, rowSubSpSpT16] ++
  [rowBT16]

/-! ### The unit decoders -/

/-- `decode32` (R77 to R86): the fields of the one row that fits, UNKNOWN where none does. -/
def decode32 (w : Word) : Instr :=
  if rowAndImmA32.fits w then .andImmA32 (w.extractLsb' 12 4) (w.extractLsb' 16 4) (w.extractLsb' 8 4) (w.extractLsb' 0 8)
  else if rowAndRegA32.fits w then .andRegA32 (w.extractLsb' 12 4) (w.extractLsb' 16 4) (w.extractLsb' 0 4)
  else if rowEorImmA32.fits w then .eorImmA32 (w.extractLsb' 12 4) (w.extractLsb' 16 4) (w.extractLsb' 8 4) (w.extractLsb' 0 8)
  else if rowEorRegA32.fits w then .eorRegA32 (w.extractLsb' 12 4) (w.extractLsb' 16 4) (w.extractLsb' 0 4)
  else if rowSubImmA32.fits w then .subImmA32 (w.extractLsb' 12 4) (w.extractLsb' 16 4) (w.extractLsb' 8 4) (w.extractLsb' 0 8)
  else if rowSubRegA32.fits w then .subRegA32 (w.extractLsb' 12 4) (w.extractLsb' 16 4) (w.extractLsb' 0 4)
  else if rowSubsImmA32.fits w then .subsImmA32 (w.extractLsb' 12 4) (w.extractLsb' 16 4) (w.extractLsb' 8 4) (w.extractLsb' 0 8)
  else if rowSubsRegA32.fits w then .subsRegA32 (w.extractLsb' 12 4) (w.extractLsb' 16 4) (w.extractLsb' 0 4)
  else if rowAddImmA32.fits w then .addImmA32 (w.extractLsb' 12 4) (w.extractLsb' 16 4) (w.extractLsb' 8 4) (w.extractLsb' 0 8)
  else if rowAddRegA32.fits w then .addRegA32 (w.extractLsb' 12 4) (w.extractLsb' 16 4) (w.extractLsb' 0 4)
  else if rowAddsImmA32.fits w then .addsImmA32 (w.extractLsb' 12 4) (w.extractLsb' 16 4) (w.extractLsb' 8 4) (w.extractLsb' 0 8)
  else if rowAddsRegA32.fits w then .addsRegA32 (w.extractLsb' 12 4) (w.extractLsb' 16 4) (w.extractLsb' 0 4)
  else if rowOrrImmA32.fits w then .orrImmA32 (w.extractLsb' 12 4) (w.extractLsb' 16 4) (w.extractLsb' 8 4) (w.extractLsb' 0 8)
  else if rowOrrRegA32.fits w then .orrRegA32 (w.extractLsb' 12 4) (w.extractLsb' 16 4) (w.extractLsb' 0 4)
  else if rowMovImmA32.fits w then .movImmA32 (w.extractLsb' 12 4) (w.extractLsb' 8 4) (w.extractLsb' 0 8)
  else if rowMovRegA32.fits w then .movRegA32 (w.extractLsb' 12 4) (w.extractLsb' 0 4)
  else if rowMovsImmA32.fits w then .movsImmA32 (w.extractLsb' 12 4) (w.extractLsb' 8 4) (w.extractLsb' 0 8)
  else if rowMovsRegA32.fits w then .movsRegA32 (w.extractLsb' 12 4) (w.extractLsb' 0 4)
  else if rowCmpImmA32.fits w then .cmpImmA32 (w.extractLsb' 16 4) (w.extractLsb' 8 4) (w.extractLsb' 0 8)
  else if rowCmpRegA32.fits w then .cmpRegA32 (w.extractLsb' 16 4) (w.extractLsb' 0 4)
  else if rowLdrA32.fits w then .ldrA32 (w.extractLsb' 23 1) (w.extractLsb' 12 4) (w.extractLsb' 16 4) (w.extractLsb' 0 12)
  else if rowStrA32.fits w then .strA32 (w.extractLsb' 23 1) (w.extractLsb' 12 4) (w.extractLsb' 16 4) (w.extractLsb' 0 12)
  else if rowBA32.fits w then .bA32 (w.extractLsb' 0 24)
  else if rowBlA32.fits w then .blA32 (w.extractLsb' 0 24)
  else if rowBxA32.fits w then .bxA32 (w.extractLsb' 0 4)
  else .unknown (.a32 w)

/-- `decode16` (R100 to R122). -/
def decode16 (h : Half) : Instr :=
  if rowMovsImm8T16.fits h then .movsImm8T16 (h.extractLsb' 8 3) (h.extractLsb' 0 8)
  else if rowCmpImm8T16.fits h then .cmpImm8T16 (h.extractLsb' 8 3) (h.extractLsb' 0 8)
  else if rowAddsImm8T16.fits h then .addsImm8T16 (h.extractLsb' 8 3) (h.extractLsb' 0 8)
  else if rowSubsImm8T16.fits h then .subsImm8T16 (h.extractLsb' 8 3) (h.extractLsb' 0 8)
  else if rowAddsRegT16.fits h then .addsRegT16 (h.extractLsb' 0 3) (h.extractLsb' 3 3) (h.extractLsb' 6 3)
  else if rowSubsRegT16.fits h then .subsRegT16 (h.extractLsb' 0 3) (h.extractLsb' 3 3) (h.extractLsb' 6 3)
  else if rowAddsImm3T16.fits h then .addsImm3T16 (h.extractLsb' 0 3) (h.extractLsb' 3 3) (h.extractLsb' 6 3)
  else if rowSubsImm3T16.fits h then .subsImm3T16 (h.extractLsb' 0 3) (h.extractLsb' 3 3) (h.extractLsb' 6 3)
  else if rowMovsRegT16.fits h then .movsRegT16 (h.extractLsb' 0 3) (h.extractLsb' 3 3)
  else if rowCmpRegT16.fits h then .cmpRegT16 (h.extractLsb' 0 3) (h.extractLsb' 3 3)
  else if rowAddRegT16.fits h then .addRegT16 (h.extractLsb' 7 1 ++ h.extractLsb' 0 3) (h.extractLsb' 3 4)
  else if rowMovRegT16.fits h then .movRegT16 (h.extractLsb' 7 1 ++ h.extractLsb' 0 3) (h.extractLsb' 3 4)
  else if rowBxT16.fits h then .bxT16 (h.extractLsb' 3 4)
  else if rowStrImm5T16.fits h then .strImm5T16 (h.extractLsb' 0 3) (h.extractLsb' 3 3) (h.extractLsb' 6 5)
  else if rowLdrImm5T16.fits h then .ldrImm5T16 (h.extractLsb' 0 3) (h.extractLsb' 3 3) (h.extractLsb' 6 5)
  else if rowStrSpT16.fits h then .strSpT16 (h.extractLsb' 8 3) (h.extractLsb' 0 8)
  else if rowLdrSpT16.fits h then .ldrSpT16 (h.extractLsb' 8 3) (h.extractLsb' 0 8)
  else if rowAddRdSpT16.fits h then .addRdSpT16 (h.extractLsb' 8 3) (h.extractLsb' 0 8)
  else if rowAddSpSpT16.fits h then .addSpSpT16 (h.extractLsb' 0 7)
  else if rowSubSpSpT16.fits h then .subSpSpT16 (h.extractLsb' 0 7)
  else if rowBT16.fits h then .bT16 (h.extractLsb' 0 11)
  else .unknown (.t16 h)

/-- The decoder on one unit, total (R75). -/
def decode : CodeUnit → Instr
  | .a32 w => decode32 w
  | .t16 h => decode16 h

/-! ### The image decoder -/

/-- Why an image gives no records. `imageTooLarge` is the model's refusal of R71's last sentence. -/
inductive DecodeError where
  | truncatedInput
  | imageTooLarge
  deriving DecidableEq, Repr

/-- The A32 region: little-endian words in buffer order (R72). -/
def decodeWords : List Byte → List Instr
  | b0 :: b1 :: b2 :: b3 :: rest => decode32 (wordOfBytes b0 b1 b2 b3) :: decodeWords rest
  | _ => []

/-- The T16 region: little-endian halfwords in buffer order (R73). -/
def decodeHalves : List Byte → List Instr
  | b0 :: b1 :: rest => decode16 (halfOfBytes b0 b1) :: decodeHalves rest
  | _ => []

/-- TRUNCATED_INPUT (R71): the region boundary or a region's length does not fit its unit. -/
def truncated (length a32Bytes : Nat) : Bool :=
  a32Bytes % 4 != 0 || decide (length < a32Bytes) || (length - a32Bytes) % 2 != 0

/-- `decode(buf, A32_BYTES)` (R70, R71, R74). -/
def decodeImage (buf : List Byte) (a32Bytes : Nat) : Except DecodeError (List Instr) :=
  if truncated buf.length a32Bytes then .error .truncatedInput
  else if Config.maxImageBytes < buf.length then .error .imageTooLarge
  else .ok (decodeWords (buf.take a32Bytes) ++ decodeHalves (buf.drop a32Bytes))

/-! ### The encoder -/

/-- The unit of an instruction: the row's fixed bits with each field at its place (R78 to R85, R100, R127). -/
def encode : Instr → CodeUnit
  | .andImmA32 rd rn rot imm8 => .a32 (0xE2000000#32 ||| place 32 rn 16 ||| place 32 rd 12 ||| place 32 rot 8 ||| place 32 imm8 0)
  | .andRegA32 rd rn rm => .a32 (0xE0000000#32 ||| place 32 rn 16 ||| place 32 rd 12 ||| place 32 rm 0)
  | .eorImmA32 rd rn rot imm8 => .a32 (0xE2200000#32 ||| place 32 rn 16 ||| place 32 rd 12 ||| place 32 rot 8 ||| place 32 imm8 0)
  | .eorRegA32 rd rn rm => .a32 (0xE0200000#32 ||| place 32 rn 16 ||| place 32 rd 12 ||| place 32 rm 0)
  | .subImmA32 rd rn rot imm8 => .a32 (0xE2400000#32 ||| place 32 rn 16 ||| place 32 rd 12 ||| place 32 rot 8 ||| place 32 imm8 0)
  | .subRegA32 rd rn rm => .a32 (0xE0400000#32 ||| place 32 rn 16 ||| place 32 rd 12 ||| place 32 rm 0)
  | .subsImmA32 rd rn rot imm8 => .a32 (0xE2500000#32 ||| place 32 rn 16 ||| place 32 rd 12 ||| place 32 rot 8 ||| place 32 imm8 0)
  | .subsRegA32 rd rn rm => .a32 (0xE0500000#32 ||| place 32 rn 16 ||| place 32 rd 12 ||| place 32 rm 0)
  | .addImmA32 rd rn rot imm8 => .a32 (0xE2800000#32 ||| place 32 rn 16 ||| place 32 rd 12 ||| place 32 rot 8 ||| place 32 imm8 0)
  | .addRegA32 rd rn rm => .a32 (0xE0800000#32 ||| place 32 rn 16 ||| place 32 rd 12 ||| place 32 rm 0)
  | .addsImmA32 rd rn rot imm8 => .a32 (0xE2900000#32 ||| place 32 rn 16 ||| place 32 rd 12 ||| place 32 rot 8 ||| place 32 imm8 0)
  | .addsRegA32 rd rn rm => .a32 (0xE0900000#32 ||| place 32 rn 16 ||| place 32 rd 12 ||| place 32 rm 0)
  | .orrImmA32 rd rn rot imm8 => .a32 (0xE3800000#32 ||| place 32 rn 16 ||| place 32 rd 12 ||| place 32 rot 8 ||| place 32 imm8 0)
  | .orrRegA32 rd rn rm => .a32 (0xE1800000#32 ||| place 32 rn 16 ||| place 32 rd 12 ||| place 32 rm 0)
  | .movImmA32 rd rot imm8 => .a32 (0xE3A00000#32 ||| place 32 rd 12 ||| place 32 rot 8 ||| place 32 imm8 0)
  | .movRegA32 rd rm => .a32 (0xE1A00000#32 ||| place 32 rd 12 ||| place 32 rm 0)
  | .movsImmA32 rd rot imm8 => .a32 (0xE3B00000#32 ||| place 32 rd 12 ||| place 32 rot 8 ||| place 32 imm8 0)
  | .movsRegA32 rd rm => .a32 (0xE1B00000#32 ||| place 32 rd 12 ||| place 32 rm 0)
  | .cmpImmA32 rn rot imm8 => .a32 (0xE3500000#32 ||| place 32 rn 16 ||| place 32 rot 8 ||| place 32 imm8 0)
  | .cmpRegA32 rn rm => .a32 (0xE1500000#32 ||| place 32 rn 16 ||| place 32 rm 0)
  | .ldrA32 up rd rn imm12 => .a32 (0xE5100000#32 ||| place 32 up 23 ||| place 32 rn 16 ||| place 32 rd 12 ||| place 32 imm12 0)
  | .strA32 up rd rn imm12 => .a32 (0xE5000000#32 ||| place 32 up 23 ||| place 32 rn 16 ||| place 32 rd 12 ||| place 32 imm12 0)
  | .bA32 imm24 => .a32 (0xEA000000#32 ||| place 32 imm24 0)
  | .blA32 imm24 => .a32 (0xEB000000#32 ||| place 32 imm24 0)
  | .bxA32 rm => .a32 (0xE12FFF10#32 ||| place 32 rm 0)
  | .movsImm8T16 rd imm8 => .t16 (0x2000#16 ||| place 16 rd 8 ||| place 16 imm8 0)
  | .cmpImm8T16 rn imm8 => .t16 (0x2800#16 ||| place 16 rn 8 ||| place 16 imm8 0)
  | .addsImm8T16 rdn imm8 => .t16 (0x3000#16 ||| place 16 rdn 8 ||| place 16 imm8 0)
  | .subsImm8T16 rdn imm8 => .t16 (0x3800#16 ||| place 16 rdn 8 ||| place 16 imm8 0)
  | .addsRegT16 rd rn rm => .t16 (0x1800#16 ||| place 16 rm 6 ||| place 16 rn 3 ||| place 16 rd 0)
  | .subsRegT16 rd rn rm => .t16 (0x1A00#16 ||| place 16 rm 6 ||| place 16 rn 3 ||| place 16 rd 0)
  | .addsImm3T16 rd rn imm3 => .t16 (0x1C00#16 ||| place 16 imm3 6 ||| place 16 rn 3 ||| place 16 rd 0)
  | .subsImm3T16 rd rn imm3 => .t16 (0x1E00#16 ||| place 16 imm3 6 ||| place 16 rn 3 ||| place 16 rd 0)
  | .movsRegT16 rd rm => .t16 (0x0000#16 ||| place 16 rm 3 ||| place 16 rd 0)
  | .cmpRegT16 rn rm => .t16 (0x4280#16 ||| place 16 rm 3 ||| place 16 rn 0)
  | .addRegT16 rdn rm => .t16 (0x4400#16 ||| place 16 (rdn.extractLsb' 3 1) 7 ||| place 16 rm 3 ||| place 16 (rdn.extractLsb' 0 3) 0)
  | .movRegT16 rd rm => .t16 (0x4600#16 ||| place 16 (rd.extractLsb' 3 1) 7 ||| place 16 rm 3 ||| place 16 (rd.extractLsb' 0 3) 0)
  | .bxT16 rm => .t16 (0x4700#16 ||| place 16 rm 3)
  | .strImm5T16 rt rn imm5 => .t16 (0x6000#16 ||| place 16 imm5 6 ||| place 16 rn 3 ||| place 16 rt 0)
  | .ldrImm5T16 rt rn imm5 => .t16 (0x6800#16 ||| place 16 imm5 6 ||| place 16 rn 3 ||| place 16 rt 0)
  | .strSpT16 rt imm8 => .t16 (0x9000#16 ||| place 16 rt 8 ||| place 16 imm8 0)
  | .ldrSpT16 rt imm8 => .t16 (0x9800#16 ||| place 16 rt 8 ||| place 16 imm8 0)
  | .addRdSpT16 rd imm8 => .t16 (0xA800#16 ||| place 16 rd 8 ||| place 16 imm8 0)
  | .addSpSpT16 imm7 => .t16 (0xB000#16 ||| place 16 imm7 0)
  | .subSpSpT16 imm7 => .t16 (0xB080#16 ||| place 16 imm7 0)
  | .bT16 imm11 => .t16 (0xE000#16 ||| place 16 imm11 0)
  | .unknown unit => unit

/-- The bytes of a unit in buffer order (R53). -/
def CodeUnit.toBytes : CodeUnit → List Byte
  | .a32 w => [wordByte w 0, wordByte w 1, wordByte w 2, wordByte w 3]
  | .t16 h => [h.extractLsb' 0 8, h.extractLsb' 8 8]

/-- The bytes of a sequence of instructions in order. -/
def encodeBytes (is : List Instr) : List Byte := is.flatMap fun i => (encode i).toBytes

/-! ### The record view (10_state.md R32) -/

/-- The op of an instruction with its operands, each form as its own rule gives it (R79 to R121). -/
def Instr.op : Instr → Op
  | .andImmA32 rd rn rot imm8 => .and (reg4 rd) (reg4 rn) (.imm (modifiedImm rot imm8))
  | .andRegA32 rd rn rm => .and (reg4 rd) (reg4 rn) (.reg (reg4 rm))
  | .eorImmA32 rd rn rot imm8 => .eor (reg4 rd) (reg4 rn) (.imm (modifiedImm rot imm8))
  | .eorRegA32 rd rn rm => .eor (reg4 rd) (reg4 rn) (.reg (reg4 rm))
  | .subImmA32 rd rn rot imm8 => .sub (reg4 rd) (reg4 rn) (.imm (modifiedImm rot imm8))
  | .subRegA32 rd rn rm => .sub (reg4 rd) (reg4 rn) (.reg (reg4 rm))
  | .subsImmA32 rd rn rot imm8 => .subs (reg4 rd) (reg4 rn) (.imm (modifiedImm rot imm8))
  | .subsRegA32 rd rn rm => .subs (reg4 rd) (reg4 rn) (.reg (reg4 rm))
  | .addImmA32 rd rn rot imm8 => .add (reg4 rd) (reg4 rn) (.imm (modifiedImm rot imm8))
  | .addRegA32 rd rn rm => .add (reg4 rd) (reg4 rn) (.reg (reg4 rm))
  | .addsImmA32 rd rn rot imm8 => .adds (reg4 rd) (reg4 rn) (.imm (modifiedImm rot imm8))
  | .addsRegA32 rd rn rm => .adds (reg4 rd) (reg4 rn) (.reg (reg4 rm))
  | .orrImmA32 rd rn rot imm8 => .orr (reg4 rd) (reg4 rn) (.imm (modifiedImm rot imm8))
  | .orrRegA32 rd rn rm => .orr (reg4 rd) (reg4 rn) (.reg (reg4 rm))
  | .movImmA32 rd rot imm8 => .mov (reg4 rd) (.imm (modifiedImm rot imm8))
  | .movRegA32 rd rm => .mov (reg4 rd) (.reg (reg4 rm))
  | .movsImmA32 rd rot imm8 => .movs (reg4 rd) (.imm (modifiedImm rot imm8))
  | .movsRegA32 rd rm => .movs (reg4 rd) (.reg (reg4 rm))
  | .cmpImmA32 rn rot imm8 => .cmp (reg4 rn) (.imm (modifiedImm rot imm8))
  | .cmpRegA32 rn rm => .cmp (reg4 rn) (.reg (reg4 rm))
  | .ldrA32 up rd rn imm12 => .ldr (reg4 rd) (reg4 rn) (memOffset up imm12)
  | .strA32 up rd rn imm12 => .str (reg4 rd) (reg4 rn) (memOffset up imm12)
  | .bA32 imm24 => .b (branchOffsetA32 imm24)
  | .blA32 imm24 => .bl (branchOffsetA32 imm24)
  | .bxA32 rm => .bx (reg4 rm)
  | .movsImm8T16 rd imm8 => .movs (reg3 rd) (.imm (imm8.setWidth 32))
  | .cmpImm8T16 rn imm8 => .cmp (reg3 rn) (.imm (imm8.setWidth 32))
  | .addsImm8T16 rdn imm8 => .adds (reg3 rdn) (reg3 rdn) (.imm (imm8.setWidth 32))
  | .subsImm8T16 rdn imm8 => .subs (reg3 rdn) (reg3 rdn) (.imm (imm8.setWidth 32))
  | .addsRegT16 rd rn rm => .adds (reg3 rd) (reg3 rn) (.reg (reg3 rm))
  | .subsRegT16 rd rn rm => .subs (reg3 rd) (reg3 rn) (.reg (reg3 rm))
  | .addsImm3T16 rd rn imm3 => .adds (reg3 rd) (reg3 rn) (.imm (imm3.setWidth 32))
  | .subsImm3T16 rd rn imm3 => .subs (reg3 rd) (reg3 rn) (.imm (imm3.setWidth 32))
  | .movsRegT16 rd rm => .movs (reg3 rd) (.reg (reg3 rm))
  | .cmpRegT16 rn rm => .cmp (reg3 rn) (.reg (reg3 rm))
  | .addRegT16 rdn rm => .add (reg4 rdn) (reg4 rdn) (.reg (reg4 rm))
  | .movRegT16 rd rm => .mov (reg4 rd) (.reg (reg4 rm))
  | .bxT16 rm => .bx (reg4 rm)
  | .strImm5T16 rt rn imm5 => .str (reg3 rt) (reg3 rn) (4 * imm5.toNat)
  | .ldrImm5T16 rt rn imm5 => .ldr (reg3 rt) (reg3 rn) (4 * imm5.toNat)
  | .strSpT16 rt imm8 => .str (reg3 rt) Config.stackRegister (4 * imm8.toNat)
  | .ldrSpT16 rt imm8 => .ldr (reg3 rt) Config.stackRegister (4 * imm8.toNat)
  | .addRdSpT16 rd imm8 => .add (reg3 rd) Config.stackRegister (.imm (times4 imm8))
  | .addSpSpT16 imm7 => .add Config.stackRegister Config.stackRegister (.imm (times4 imm7))
  | .subSpSpT16 imm7 => .sub Config.stackRegister Config.stackRegister (.imm (times4 imm7))
  | .bT16 imm11 => .b (branchOffsetT16 imm11)
  | .unknown _ => .unknown

/-- The size of an instruction in bytes: its region's unit (R33, R124). -/
def Instr.size (i : Instr) : Size := (encode i).size

/-- The instruction record of 10_state.md R32. -/
def Instr.record (i : Instr) : Record := ⟨i.size, (encode i).raw, i.op⟩

/-! ### One table word -/

/-- The image that holds one table word alone, laid out as the hardware stores it, with its `A32_BYTES`.
A word of at most 16 bits is a T16 halfword, and one of 17 to 32 bits an A32 word (log entry 6). -/
def imageOfTableWord (nbits w : Nat) : Option (List Byte × Nat) :=
  if nbits = 0 then none
  else if nbits ≤ 16 then some ((CodeUnit.t16 (BitVec.ofNat 16 (w % 2 ^ nbits))).toBytes, 0)
  else if nbits ≤ 32 then some ((CodeUnit.a32 (BitVec.ofNat 32 (w % 2 ^ nbits))).toBytes, 4)
  else none

/-- The instruction the decoder reads from a word of the opcode table. -/
def decodeTableWord (nbits w : Nat) : Option Instr :=
  match imageOfTableWord nbits w with
  | none => none
  | some (buf, a32Bytes) =>
    match decodeImage buf a32Bytes with
    | .ok (i :: _) => some i
    | _ => none

end Sys2Proof
end

