-- ==== Sys2Proof/Machine/State.lean ====
section
/-! DEFINITION. The machine state (10_state.md R45), its reset (70_reset_and_hazards.md R230) and the reasons
an action of the model can stop. -/

namespace Sys2Proof.Machine

/-- The four condition flags (10_state.md R34). -/
structure Flags where
  z : Bool
  n : Bool
  c : Bool
  v : Bool
  deriving DecidableEq, Repr

/-- `run_state` (R38). -/
inductive RunState where
  | running
  | halted
  deriving DecidableEq, Repr

/-- `halt_reason` (R39; 60_exceptions.md R210). -/
inductive HaltReason where
  | none
  | boundReached
  | outOfBounds
  | memoryViolation
  deriving DecidableEq, Repr

/-- One report of an executed UNKNOWN record: the pair (pc, raw) (R41; 42_branch.md R183). -/
structure Diagnostic where
  pc : Word
  raw : Word
  deriving DecidableEq, Repr

/-- The data space (20_memory.md R50) as the list of its non-zero bytes. An unlisted address reads as 0,
which is the reset value of every byte. -/
abbrev Memory := List Host.Cell

/-- The canonical form: addresses strictly rising, each inside the data space, no byte equal to 0. -/
abbrev Memory.wf (m : Memory) : Prop :=
  m.Pairwise (fun p q => p.1 < q.1) ∧ ∀ cell ∈ m, cell.1 < Config.memBytes ∧ cell.2 ≠ 0

/-- All that the spec gives the machine (R45), with the budget that every cycle reads (00_scope.md R8). -/
structure State where
  /-- `x[0..15]` (R20). -/
  regs : Vector Word 16
  /-- Z, N, C, V (R34). -/
  flags : Flags
  /-- `mem[0..65535]` (20_memory.md R50). -/
  mem : Memory
  /-- The byte offset of the record that executes (R27, R28). -/
  pc : Word
  /-- RUNNING or HALTED (R38). -/
  runState : RunState
  /-- NONE while RUNNING (R39). -/
  haltReason : HaltReason
  /-- Completed cycles of the run (R40). -/
  cycles : Nat
  /-- `MAX_CYCLES`, the budget of the run (00_scope.md R8; log entry 4). -/
  maxCycles : Nat
  /-- The reports of executed UNKNOWN records, oldest first (R41). -/
  diagnostics : List Diagnostic
  /-- The instruction store: the decoded sequence, fixed for the run (R43). -/
  records : List Instr
  deriving DecidableEq, Repr

/-- What stops the machine with a fault. -/
inductive Fault where
  /-- TRUNCATED_INPUT (30_encoding.md R71; 60_exceptions.md R210): raised by `load` alone, on an image whose
  regions do not fit their units. No record is produced and no run starts. Safe: the spec gives this error and
  nothing after it. No instruction raises it. -/
  | truncatedInput
  deriving DecidableEq, Repr

/-- What the model refuses. -/
inductive Refusal where
  /-- Raised by an arm of `exec` whose instruction has no meaning yet. Safe: nothing is claimed of it.
  No arm of this model raises it. -/
  | notModelled (mnemonic : String)
  /-- Raised by `load` alone, on an image of more than 2^31 bytes: "a model refuses any image with
  `L > 2^31`" (30_encoding.md R71; 10_state.md R31). Safe: the spec asks for the refusal. -/
  | imageTooLarge
  deriving DecidableEq, Repr

/-- The outcome of a meaning or of a step. -/
abbrev Result := Host.Outcome State Fault Refusal

/-- The zeroed Machine State (70_reset_and_hazards.md R230; R45). The instruction store is empty, since no image
is given (log entry 3), and the budget has its default (log entry 4). -/
def State.reset : State where
  regs := Vector.replicate 16 0
  flags := { z := false, n := false, c := false, v := false }
  mem := []
  pc := 0
  runState := .running
  haltReason := .none
  cycles := 0
  maxCycles := Config.defaultMaxCycles
  diagnostics := []
  records := []

end Sys2Proof.Machine
end

