-- ==== Sys2Proof/Machine/Ops.lean ====
section
/-! DEFINITION. The named operations over registers, memory, the pc and the run's status. All reads and writes
of a meaning go through these. -/

namespace Sys2Proof.Machine

/-! ### Registers (10_state.md R20, R21, R23: sixteen plain registers) -/

/-- `x[i]`. -/
def State.reg (s : State) (r : Reg) : Word := s.regs[r]

/-- `x[i] <- v`. -/
def State.setReg (s : State) (r : Reg) (v : Word) : State := { s with regs := s.regs.set r v }

/-- All four flags written together (00_scope.md R13). -/
def State.setFlags (s : State) (f : Flags) : State := { s with flags := f }

/-! ### Memory (20_memory.md R50 to R59) -/

/-- The byte at an address. An unlisted address reads as 0 (R50). -/
def Memory.readByte : Memory → Nat → Byte
  | [], _ => 0
  | (k, b) :: rest, a => if k = a then b else Memory.readByte rest a

/-- Store one byte and keep the canonical form: a zero byte is not listed. -/
def Memory.writeByte : Memory → Nat → Byte → Memory
  | [], a, v => if v = 0 then [] else [(a, v)]
  | (k, b) :: rest, a, v =>
    if a < k then (if v = 0 then (k, b) :: rest else (a, v) :: (k, b) :: rest)
    else if a = k then (if v = 0 then rest else (a, v) :: rest)
    else (k, b) :: Memory.writeByte rest a v

/-- `MemRead(a, 4)` (R52). -/
def Memory.readWord (m : Memory) (a : Nat) : Word :=
  wordOfBytes (m.readByte a) (m.readByte (a + 1)) (m.readByte (a + 2)) (m.readByte (a + 3))

/-- `MemWrite(a, 4, v)` (R52): least significant byte at the lowest address. -/
def Memory.writeWord (m : Memory) (a : Nat) (v : Word) : Memory :=
  (((m.writeByte a (wordByte v 0)).writeByte (a + 1) (wordByte v 1)).writeByte (a + 2) (wordByte v 2)).writeByte
    (a + 3) (wordByte v 3)

/-- `MemRead(ea, 4)` on the state. -/
def State.load32 (s : State) (ea : Word) : Word := s.mem.readWord ea.toNat

/-- `MemWrite(ea, 4, v)` on the state. -/
def State.store32 (s : State) (ea v : Word) : State := { s with mem := s.mem.writeWord ea.toNat v }

/-! ### The program counter (10_state.md R29, R30) -/

/-- `pc <- u32(pc + rec.size)`. -/
def State.advance (s : State) (size : Size) : State := { s with pc := s.pc + BitVec.ofNat 32 size.bytes }

/-- `pc <- t`. -/
def State.jump (s : State) (target : Word) : State := { s with pc := target }

/-- `u32(pc + offset)` (42_branch.md R180). -/
def State.branchTarget (s : State) (offset : Int) : Word := s.pc + BitVec.ofInt 32 offset

/-! ### Halts and reports -/

/-- `raise Halt(reason)` (00_scope.md R11; 60_exceptions.md R210, R215): the one operation that ends a run. It
records the reason and leaves every register, flag, memory byte, the pc and `cycles` as they are. -/
def State.halt (s : State) (reason : HaltReason) : State := { s with runState := .halted, haltReason := reason }

/-- `report Unknown(pc, raw)` (42_branch.md R183): append to the diagnostics. -/
def State.report (s : State) (raw : Word) : State :=
  { s with diagnostics := s.diagnostics ++ [{ pc := s.pc, raw := raw }] }

/-- The code of a halt reason (60_exceptions.md R210). -/
def HaltReason.code : HaltReason → Nat
  | .none => 0
  | .boundReached => 1
  | .outOfBounds => 2
  | .memoryViolation => 3

/-- The fatal reason. BOUND_REACHED and OUT_OF_BOUNDS are normal terminations (60_exceptions.md R212). -/
def HaltReason.fatal : HaltReason → Bool
  | .memoryViolation => true
  | _ => false

end Sys2Proof.Machine
end

