-- ==== Sys2Proof/Machine/Operands.lean ====
section
/-! DEFINITION. The operand forms of a record: the second operand, the effective address, and the register
ports (00_scope.md R12; 41_load_store.md R170; 10_state.md R25, R26). -/

namespace Sys2Proof.Machine

/-- `op2(rec)`: the immediate, or the register's value (00_scope.md R12). -/
def op2 (src2 : Src2) (s : State) : Word :=
  match src2 with
  | .imm value => value
  | .reg rm => s.reg rm

/-- `ea = u32(x[rn] + imm)` (41_load_store.md R170). -/
def effectiveAddress (rn : Reg) (imm : Int) (s : State) : Word := s.reg rn + BitVec.ofInt 32 imm

/-- An access is in range iff `ea ≤ 0xFFFC` (20_memory.md R56; 41_load_store.md R171). -/
def inRange (ea : Word) : Bool := decide (ea.toNat ≤ Config.lastWordAddress)

/-- The register that the second operand reads, if any. -/
def src2Reg : Src2 → Option Reg
  | .imm _ => none
  | .reg rm => some rm

/-- The register on read port A: `x[rn]`, or `x[rm]` for BX (10_state.md R26). -/
def readPortA : Op → Option Reg
  | .add _ rn _ | .adds _ rn _ | .sub _ rn _ | .subs _ rn _ | .and _ rn _ | .orr _ rn _ | .eor _ rn _ => some rn
  | .cmp rn _ => some rn
  | .ldr _ rn _ | .str _ rn _ => some rn
  | .bx rm => some rm
  | .mov _ _ | .movs _ _ | .b _ | .bl _ | .unknown => none

/-- The register on read port B: `op2`, or `x[rd]` for STR (R26). -/
def readPortB : Op → Option Reg
  | .add _ _ src2 | .adds _ _ src2 | .sub _ _ src2 | .subs _ _ src2 | .and _ _ src2 | .orr _ _ src2
  | .eor _ _ src2 => src2Reg src2
  | .mov _ src2 | .movs _ src2 | .cmp _ src2 => src2Reg src2
  | .str rd _ _ => some rd
  | .ldr _ _ _ | .b _ | .bl _ | .bx _ | .unknown => none

/-- The register on the write port, the "register written" of R25. -/
def writePort : Op → Option Reg
  | .add rd _ _ | .adds rd _ _ | .sub rd _ _ | .subs rd _ _ | .and rd _ _ | .orr rd _ _ | .eor rd _ _ => some rd
  | .mov rd _ | .movs rd _ => some rd
  | .ldr rd _ _ => some rd
  | .bl _ => some Config.linkRegister
  | .cmp _ _ | .str _ _ _ | .b _ | .bx _ | .unknown => none

end Sys2Proof.Machine
end

