-- ==== Sys2Proof/Machine/Branch.lean ====
section
/-! DEFINITION. B, BL, BX and UNKNOWN (42_branch.md R180 to R184): the shared operations on records, then one
meaning for each form. A branch checks nothing: a bad target is found by the next fetch (R184). -/

namespace Sys2Proof.Machine

/-- B on a record (R180). -/
def opB (offset : Int) (s : State) : Result := .next (s.jump (s.branchTarget offset))

/-- BL on a record (R181): the link is `pc + 4` whatever the record's size is. -/
def opBl (offset : Int) (s : State) : Result :=
  .next ((s.setReg Config.linkRegister (s.pc + Config.linkDistance)).jump (s.branchTarget offset))

/-- BX on a record (R182): the register's value whole, bit 0 included. -/
def opBx (rm : Reg) (s : State) : Result := .next (s.jump (s.reg rm))

/-- UNKNOWN on a record (R183): report it and go on. -/
def opUnknown (size : Size) (raw : Word) (s : State) : Result := .next ((s.report raw).advance size)

/-! ### One meaning for each form -/

/-- B, A32 (R180; 30_encoding.md R84). -/
def execBA32 (imm24 : BitVec 24) (s : State) : Result :=
  opB (branchOffsetA32 imm24) s

/-- BL, A32 (R181; 30_encoding.md R84). -/
def execBlA32 (imm24 : BitVec 24) (s : State) : Result :=
  opBl (branchOffsetA32 imm24) s

/-- BX, A32 (R182; 30_encoding.md R85). -/
def execBxA32 (rm : BitVec 4) (s : State) : Result :=
  opBx (reg4 rm) s

/-- BX, T16 register (R182; 30_encoding.md R113). -/
def execBxT16 (rm : BitVec 4) (s : State) : Result :=
  opBx (reg4 rm) s

/-- B, T16 imm11 (R180; 30_encoding.md R121). -/
def execBT16 (imm11 : BitVec 11) (s : State) : Result :=
  opB (branchOffsetT16 imm11) s

/-- UNKNOWN: any unit that matches no other row of its format (R183; 30_encoding.md R75). -/
def execUnknown (unit : CodeUnit) (s : State) : Result :=
  opUnknown unit.size unit.raw s

end Sys2Proof.Machine
end

