-- ==== Sys2Proof/Machine/Flags.lean ====
section
/-! DEFINITION. The ALU and the flag unit (40_alu.md R140, R151 to R153). -/

namespace Sys2Proof.Machine

/-- The ALU's function select (R140). -/
inductive AluFn where
  | add
  | sub
  | and
  | orr
  | eor
  | pass
  deriving DecidableEq, Repr

/-- What the ALU returns. The carry and overflow bits are defined only for ADD and SUB (R140). -/
structure AluOut where
  result : Word
  carryOverflow : Option (Bool × Bool)
  deriving DecidableEq, Repr

/-- ADD's carry: `a + b > 0xFFFFFFFF` as an unsigned sum (R151). -/
def addCarry (a b : Word) : Bool := decide (a.toNat + b.toNat > 0xFFFFFFFF)

/-- `addV`: `a[31] = b[31]` and `r[31] ≠ a[31]` (R151). -/
def addOverflow (a b r : Word) : Bool := a.msb == b.msb && r.msb != a.msb

/-- SUB's carry: no borrow, `a >= b` unsigned (R152). -/
def subCarry (a b : Word) : Bool := decide (b.toNat ≤ a.toNat)

/-- `subV`: `a[31] ≠ b[31]` and `r[31] ≠ a[31]` (R152). -/
def subOverflow (a b r : Word) : Bool := a.msb != b.msb && r.msb != a.msb

/-- The ALU (R140). -/
def alu (f : AluFn) (a b : Word) : AluOut :=
  match f with
  | .add => { result := a + b, carryOverflow := some (addCarry a b, addOverflow a b (a + b)) }
  | .sub => { result := a - b, carryOverflow := some (subCarry a b, subOverflow a b (a - b)) }
  | .and => { result := a &&& b, carryOverflow := none }
  | .orr => { result := a ||| b, carryOverflow := none }
  | .eor => { result := a ^^^ b, carryOverflow := none }
  | .pass => { result := b, carryOverflow := none }

/-- The flag unit: Z and N from the 32-bit result; C and V from the ALU where it defines them, else
unchanged (R151, R152, R153). -/
def flagUnit (out : AluOut) (old : Flags) : Flags where
  z := out.result == 0
  n := out.result.msb
  c := match out.carryOverflow with
    | some (c, _) => c
    | none => old.c
  v := match out.carryOverflow with
    | some (_, v) => v
    | none => old.v

end Sys2Proof.Machine
end

