-- ==== Sys2Proof/Machine/DataProc.lean ====
section
/-! DEFINITION. The data-processing instructions (40_alu.md R140 to R157): the shared operations on records,
then one meaning for each form. -/

namespace Sys2Proof.Machine

/-- A data-processing record without flags: the ALU's result to `x[rd]`, and `pc` past the record. -/
def dataProcess (f : AluFn) (size : Size) (rd : Reg) (a b : Word) (s : State) : Result :=
  .next ((s.setReg rd (alu f a b).result).advance size)

/-- A data-processing record with flags: the result to `x[rd]`, the flag unit's output to the flags, and
`pc` past the record. -/
def dataProcessFlags (f : AluFn) (size : Size) (rd : Reg) (a b : Word) (s : State) : Result :=
  .next (((s.setReg rd (alu f a b).result).setFlags (flagUnit (alu f a b) s.flags)).advance size)

/-- ADD on a record (R141). -/
def opAdd (size : Size) (rd rn : Reg) (src2 : Src2) (s : State) : Result :=
  dataProcess .add size rd (s.reg rn) (op2 src2 s) s

/-- ADDS on a record (R142). -/
def opAdds (size : Size) (rd rn : Reg) (src2 : Src2) (s : State) : Result :=
  dataProcessFlags .add size rd (s.reg rn) (op2 src2 s) s

/-- SUB on a record (R143). -/
def opSub (size : Size) (rd rn : Reg) (src2 : Src2) (s : State) : Result :=
  dataProcess .sub size rd (s.reg rn) (op2 src2 s) s

/-- SUBS on a record (R144). -/
def opSubs (size : Size) (rd rn : Reg) (src2 : Src2) (s : State) : Result :=
  dataProcessFlags .sub size rd (s.reg rn) (op2 src2 s) s

/-- AND on a record (R148). -/
def opAnd (size : Size) (rd rn : Reg) (src2 : Src2) (s : State) : Result :=
  dataProcess .and size rd (s.reg rn) (op2 src2 s) s

/-- ORR on a record (R149). -/
def opOrr (size : Size) (rd rn : Reg) (src2 : Src2) (s : State) : Result :=
  dataProcess .orr size rd (s.reg rn) (op2 src2 s) s

/-- EOR on a record (R150). -/
def opEor (size : Size) (rd rn : Reg) (src2 : Src2) (s : State) : Result :=
  dataProcess .eor size rd (s.reg rn) (op2 src2 s) s

/-- MOV on a record (R145). It has no `rn`, and PASS does not read the ALU's first operand. -/
def opMov (size : Size) (rd : Reg) (src2 : Src2) (s : State) : Result :=
  dataProcess .pass size rd 0 (op2 src2 s) s

/-- MOVS on a record (R146). It has no `rn`, and PASS does not read the ALU's first operand. -/
def opMovs (size : Size) (rd : Reg) (src2 : Src2) (s : State) : Result :=
  dataProcessFlags .pass size rd 0 (op2 src2 s) s

/-- CMP on a record (R147): SUBS without the register write. -/
def opCmp (size : Size) (rn : Reg) (src2 : Src2) (s : State) : Result :=
  .next ((s.setFlags (flagUnit (alu .sub (s.reg rn) (op2 src2 s)) s.flags)).advance size)

/-! ### One meaning for each form -/

/-- AND, A32 immediate (R148; 30_encoding.md R79). -/
def execAndImmA32 (rd rn rot : BitVec 4) (imm8 : BitVec 8) (s : State) : Result :=
  opAnd .four (reg4 rd) (reg4 rn) (.imm (modifiedImm rot imm8)) s

/-- AND, A32 register (R148; 30_encoding.md R80). -/
def execAndRegA32 (rd rn rm : BitVec 4) (s : State) : Result :=
  opAnd .four (reg4 rd) (reg4 rn) (.reg (reg4 rm)) s

/-- EOR, A32 immediate (R150; 30_encoding.md R79). -/
def execEorImmA32 (rd rn rot : BitVec 4) (imm8 : BitVec 8) (s : State) : Result :=
  opEor .four (reg4 rd) (reg4 rn) (.imm (modifiedImm rot imm8)) s

/-- EOR, A32 register (R150; 30_encoding.md R80). -/
def execEorRegA32 (rd rn rm : BitVec 4) (s : State) : Result :=
  opEor .four (reg4 rd) (reg4 rn) (.reg (reg4 rm)) s

/-- SUB, A32 immediate (R143; 30_encoding.md R79). -/
def execSubImmA32 (rd rn rot : BitVec 4) (imm8 : BitVec 8) (s : State) : Result :=
  opSub .four (reg4 rd) (reg4 rn) (.imm (modifiedImm rot imm8)) s

/-- SUB, A32 register (R143; 30_encoding.md R80). -/
def execSubRegA32 (rd rn rm : BitVec 4) (s : State) : Result :=
  opSub .four (reg4 rd) (reg4 rn) (.reg (reg4 rm)) s

/-- SUBS, A32 immediate (R144; 30_encoding.md R79). -/
def execSubsImmA32 (rd rn rot : BitVec 4) (imm8 : BitVec 8) (s : State) : Result :=
  opSubs .four (reg4 rd) (reg4 rn) (.imm (modifiedImm rot imm8)) s

/-- SUBS, A32 register (R144; 30_encoding.md R80). -/
def execSubsRegA32 (rd rn rm : BitVec 4) (s : State) : Result :=
  opSubs .four (reg4 rd) (reg4 rn) (.reg (reg4 rm)) s

/-- ADD, A32 immediate (R141; 30_encoding.md R79). -/
def execAddImmA32 (rd rn rot : BitVec 4) (imm8 : BitVec 8) (s : State) : Result :=
  opAdd .four (reg4 rd) (reg4 rn) (.imm (modifiedImm rot imm8)) s

/-- ADD, A32 register (R141; 30_encoding.md R80). -/
def execAddRegA32 (rd rn rm : BitVec 4) (s : State) : Result :=
  opAdd .four (reg4 rd) (reg4 rn) (.reg (reg4 rm)) s

/-- ADDS, A32 immediate (R142; 30_encoding.md R79). -/
def execAddsImmA32 (rd rn rot : BitVec 4) (imm8 : BitVec 8) (s : State) : Result :=
  opAdds .four (reg4 rd) (reg4 rn) (.imm (modifiedImm rot imm8)) s

/-- ADDS, A32 register (R142; 30_encoding.md R80). -/
def execAddsRegA32 (rd rn rm : BitVec 4) (s : State) : Result :=
  opAdds .four (reg4 rd) (reg4 rn) (.reg (reg4 rm)) s

/-- ORR, A32 immediate (R149; 30_encoding.md R79). -/
def execOrrImmA32 (rd rn rot : BitVec 4) (imm8 : BitVec 8) (s : State) : Result :=
  opOrr .four (reg4 rd) (reg4 rn) (.imm (modifiedImm rot imm8)) s

/-- ORR, A32 register (R149; 30_encoding.md R80). -/
def execOrrRegA32 (rd rn rm : BitVec 4) (s : State) : Result :=
  opOrr .four (reg4 rd) (reg4 rn) (.reg (reg4 rm)) s

/-- MOV, A32 immediate (R145; 30_encoding.md R79). -/
def execMovImmA32 (rd rot : BitVec 4) (imm8 : BitVec 8) (s : State) : Result :=
  opMov .four (reg4 rd) (.imm (modifiedImm rot imm8)) s

/-- MOV, A32 register (R145; 30_encoding.md R80). -/
def execMovRegA32 (rd rm : BitVec 4) (s : State) : Result :=
  opMov .four (reg4 rd) (.reg (reg4 rm)) s

/-- MOVS, A32 immediate (R146; 30_encoding.md R79). -/
def execMovsImmA32 (rd rot : BitVec 4) (imm8 : BitVec 8) (s : State) : Result :=
  opMovs .four (reg4 rd) (.imm (modifiedImm rot imm8)) s

/-- MOVS, A32 register (R146; 30_encoding.md R80). -/
def execMovsRegA32 (rd rm : BitVec 4) (s : State) : Result :=
  opMovs .four (reg4 rd) (.reg (reg4 rm)) s

/-- CMP, A32 immediate (R147; 30_encoding.md R79). -/
def execCmpImmA32 (rn rot : BitVec 4) (imm8 : BitVec 8) (s : State) : Result :=
  opCmp .four (reg4 rn) (.imm (modifiedImm rot imm8)) s

/-- CMP, A32 register (R147; 30_encoding.md R80). -/
def execCmpRegA32 (rn rm : BitVec 4) (s : State) : Result :=
  opCmp .four (reg4 rn) (.reg (reg4 rm)) s

/-- MOVS, T16 imm8 (R146; 30_encoding.md R101). -/
def execMovsImm8T16 (rd : BitVec 3) (imm8 : BitVec 8) (s : State) : Result :=
  opMovs .two (reg3 rd) (.imm (imm8.setWidth 32)) s

/-- CMP, T16 imm8 (R147; 30_encoding.md R102). -/
def execCmpImm8T16 (rn : BitVec 3) (imm8 : BitVec 8) (s : State) : Result :=
  opCmp .two (reg3 rn) (.imm (imm8.setWidth 32)) s

/-- ADDS, T16 imm8 (R142; 30_encoding.md R103). -/
def execAddsImm8T16 (rdn : BitVec 3) (imm8 : BitVec 8) (s : State) : Result :=
  opAdds .two (reg3 rdn) (reg3 rdn) (.imm (imm8.setWidth 32)) s

/-- SUBS, T16 imm8 (R144; 30_encoding.md R104). -/
def execSubsImm8T16 (rdn : BitVec 3) (imm8 : BitVec 8) (s : State) : Result :=
  opSubs .two (reg3 rdn) (reg3 rdn) (.imm (imm8.setWidth 32)) s

/-- ADDS, T16 register (R142; 30_encoding.md R105). -/
def execAddsRegT16 (rd rn rm : BitVec 3) (s : State) : Result :=
  opAdds .two (reg3 rd) (reg3 rn) (.reg (reg3 rm)) s

/-- SUBS, T16 register (R144; 30_encoding.md R106). -/
def execSubsRegT16 (rd rn rm : BitVec 3) (s : State) : Result :=
  opSubs .two (reg3 rd) (reg3 rn) (.reg (reg3 rm)) s

/-- ADDS, T16 imm3 (R142; 30_encoding.md R107). -/
def execAddsImm3T16 (rd rn imm3 : BitVec 3) (s : State) : Result :=
  opAdds .two (reg3 rd) (reg3 rn) (.imm (imm3.setWidth 32)) s

/-- SUBS, T16 imm3 (R144; 30_encoding.md R108). -/
def execSubsImm3T16 (rd rn imm3 : BitVec 3) (s : State) : Result :=
  opSubs .two (reg3 rd) (reg3 rn) (.imm (imm3.setWidth 32)) s

/-- MOVS, T16 register (R146; 30_encoding.md R109). -/
def execMovsRegT16 (rd rm : BitVec 3) (s : State) : Result :=
  opMovs .two (reg3 rd) (.reg (reg3 rm)) s

/-- CMP, T16 register (R147; 30_encoding.md R110). -/
def execCmpRegT16 (rn rm : BitVec 3) (s : State) : Result :=
  opCmp .two (reg3 rn) (.reg (reg3 rm)) s

/-- ADD, T16 register (4-bit) (R141; 30_encoding.md R111). -/
def execAddRegT16 (rdn rm : BitVec 4) (s : State) : Result :=
  opAdd .two (reg4 rdn) (reg4 rdn) (.reg (reg4 rm)) s

/-- MOV, T16 register (4-bit) (R145; 30_encoding.md R112). -/
def execMovRegT16 (rd rm : BitVec 4) (s : State) : Result :=
  opMov .two (reg4 rd) (.reg (reg4 rm)) s

/-- ADD, T16 Rd,SP,#imm8*4 (R141; 30_encoding.md R118). -/
def execAddRdSpT16 (rd : BitVec 3) (imm8 : BitVec 8) (s : State) : Result :=
  opAdd .two (reg3 rd) Config.stackRegister (.imm (times4 imm8)) s

/-- ADD, T16 SP,SP,#imm7*4 (R141; 30_encoding.md R119). -/
def execAddSpSpT16 (imm7 : BitVec 7) (s : State) : Result :=
  opAdd .two Config.stackRegister Config.stackRegister (.imm (times4 imm7)) s

/-- SUB, T16 SP,SP,#imm7*4 (R143; 30_encoding.md R120). -/
def execSubSpSpT16 (imm7 : BitVec 7) (s : State) : Result :=
  opSub .two Config.stackRegister Config.stackRegister (.imm (times4 imm7)) s

end Sys2Proof.Machine
end

