-- ==== Sys2Proof/Machine/LoadStore.lean ====
section
/-! DEFINITION. LDR and STR (41_load_store.md R170 to R174): the shared operations on records, then one meaning
for each form. An out-of-range access halts the run with MEMORY_VIOLATION and changes nothing else (R172). -/

namespace Sys2Proof.Machine

/-- LDR on a record (R173). -/
def opLdr (size : Size) (rd rn : Reg) (imm : Int) (s : State) : Result :=
  if inRange (effectiveAddress rn imm s) then
    .next ((s.setReg rd (s.load32 (effectiveAddress rn imm s))).advance size)
  else .next (s.halt .memoryViolation)

/-- STR on a record (R174). -/
def opStr (size : Size) (rd rn : Reg) (imm : Int) (s : State) : Result :=
  if inRange (effectiveAddress rn imm s) then
    .next ((s.store32 (effectiveAddress rn imm s) (s.reg rd)).advance size)
  else .next (s.halt .memoryViolation)

/-! ### One meaning for each form -/

/-- LDR, A32 immediate offset (R173; 30_encoding.md R83). -/
def execLdrA32 (up : BitVec 1) (rd rn : BitVec 4) (imm12 : BitVec 12) (s : State) : Result :=
  opLdr .four (reg4 rd) (reg4 rn) (memOffset up imm12) s

/-- STR, A32 immediate offset (R174; 30_encoding.md R83). -/
def execStrA32 (up : BitVec 1) (rd rn : BitVec 4) (imm12 : BitVec 12) (s : State) : Result :=
  opStr .four (reg4 rd) (reg4 rn) (memOffset up imm12) s

/-- STR, T16 imm5 offset (R174; 30_encoding.md R114). -/
def execStrImm5T16 (rt rn : BitVec 3) (imm5 : BitVec 5) (s : State) : Result :=
  opStr .two (reg3 rt) (reg3 rn) (4 * imm5.toNat) s

/-- LDR, T16 imm5 offset (R173; 30_encoding.md R115). -/
def execLdrImm5T16 (rt rn : BitVec 3) (imm5 : BitVec 5) (s : State) : Result :=
  opLdr .two (reg3 rt) (reg3 rn) (4 * imm5.toNat) s

/-- STR, T16 SP-relative (R174; 30_encoding.md R116). -/
def execStrSpT16 (rt : BitVec 3) (imm8 : BitVec 8) (s : State) : Result :=
  opStr .two (reg3 rt) Config.stackRegister (4 * imm8.toNat) s

/-- LDR, T16 SP-relative (R173; 30_encoding.md R117). -/
def execLdrSpT16 (rt : BitVec 3) (imm8 : BitVec 8) (s : State) : Result :=
  opLdr .two (reg3 rt) Config.stackRegister (4 * imm8.toNat) s

end Sys2Proof.Machine
end

