-- ==== Sys2Proof/Machine/Dispatch.lean ====
section
/-! DEFINITION. Dispatch: one arm for each constructor of Instr, each one call of a meaning (43_sequencer.md R194). -/

namespace Sys2Proof.Machine

def exec (i : Instr) (s : State) : Host.Outcome State Fault Refusal :=
  match i with
  | .andImmA32 rd rn rot imm8 => Sys2Proof.Machine.execAndImmA32 rd rn rot imm8 s
  | .andRegA32 rd rn rm => Sys2Proof.Machine.execAndRegA32 rd rn rm s
  | .eorImmA32 rd rn rot imm8 => Sys2Proof.Machine.execEorImmA32 rd rn rot imm8 s
  | .eorRegA32 rd rn rm => Sys2Proof.Machine.execEorRegA32 rd rn rm s
  | .subImmA32 rd rn rot imm8 => Sys2Proof.Machine.execSubImmA32 rd rn rot imm8 s
  | .subRegA32 rd rn rm => Sys2Proof.Machine.execSubRegA32 rd rn rm s
  | .subsImmA32 rd rn rot imm8 => Sys2Proof.Machine.execSubsImmA32 rd rn rot imm8 s
  | .subsRegA32 rd rn rm => Sys2Proof.Machine.execSubsRegA32 rd rn rm s
  | .addImmA32 rd rn rot imm8 => Sys2Proof.Machine.execAddImmA32 rd rn rot imm8 s
  | .addRegA32 rd rn rm => Sys2Proof.Machine.execAddRegA32 rd rn rm s
  | .addsImmA32 rd rn rot imm8 => Sys2Proof.Machine.execAddsImmA32 rd rn rot imm8 s
  | .addsRegA32 rd rn rm => Sys2Proof.Machine.execAddsRegA32 rd rn rm s
  | .orrImmA32 rd rn rot imm8 => Sys2Proof.Machine.execOrrImmA32 rd rn rot imm8 s
  | .orrRegA32 rd rn rm => Sys2Proof.Machine.execOrrRegA32 rd rn rm s
  | .movImmA32 rd rot imm8 => Sys2Proof.Machine.execMovImmA32 rd rot imm8 s
  | .movRegA32 rd rm => Sys2Proof.Machine.execMovRegA32 rd rm s
  | .movsImmA32 rd rot imm8 => Sys2Proof.Machine.execMovsImmA32 rd rot imm8 s
  | .movsRegA32 rd rm => Sys2Proof.Machine.execMovsRegA32 rd rm s
  | .cmpImmA32 rn rot imm8 => Sys2Proof.Machine.execCmpImmA32 rn rot imm8 s
  | .cmpRegA32 rn rm => Sys2Proof.Machine.execCmpRegA32 rn rm s
  | .ldrA32 up rd rn imm12 => Sys2Proof.Machine.execLdrA32 up rd rn imm12 s
  | .strA32 up rd rn imm12 => Sys2Proof.Machine.execStrA32 up rd rn imm12 s
  | .bA32 imm24 => Sys2Proof.Machine.execBA32 imm24 s
  | .blA32 imm24 => Sys2Proof.Machine.execBlA32 imm24 s
  | .bxA32 rm => Sys2Proof.Machine.execBxA32 rm s
  | .movsImm8T16 rd imm8 => Sys2Proof.Machine.execMovsImm8T16 rd imm8 s
  | .cmpImm8T16 rn imm8 => Sys2Proof.Machine.execCmpImm8T16 rn imm8 s
  | .addsImm8T16 rdn imm8 => Sys2Proof.Machine.execAddsImm8T16 rdn imm8 s
  | .subsImm8T16 rdn imm8 => Sys2Proof.Machine.execSubsImm8T16 rdn imm8 s
  | .addsRegT16 rd rn rm => Sys2Proof.Machine.execAddsRegT16 rd rn rm s
  | .subsRegT16 rd rn rm => Sys2Proof.Machine.execSubsRegT16 rd rn rm s
  | .addsImm3T16 rd rn imm3 => Sys2Proof.Machine.execAddsImm3T16 rd rn imm3 s
  | .subsImm3T16 rd rn imm3 => Sys2Proof.Machine.execSubsImm3T16 rd rn imm3 s
  | .movsRegT16 rd rm => Sys2Proof.Machine.execMovsRegT16 rd rm s
  | .cmpRegT16 rn rm => Sys2Proof.Machine.execCmpRegT16 rn rm s
  | .addRegT16 rdn rm => Sys2Proof.Machine.execAddRegT16 rdn rm s
  | .movRegT16 rd rm => Sys2Proof.Machine.execMovRegT16 rd rm s
  | .bxT16 rm => Sys2Proof.Machine.execBxT16 rm s
  | .strImm5T16 rt rn imm5 => Sys2Proof.Machine.execStrImm5T16 rt rn imm5 s
  | .ldrImm5T16 rt rn imm5 => Sys2Proof.Machine.execLdrImm5T16 rt rn imm5 s
  | .strSpT16 rt imm8 => Sys2Proof.Machine.execStrSpT16 rt imm8 s
  | .ldrSpT16 rt imm8 => Sys2Proof.Machine.execLdrSpT16 rt imm8 s
  | .addRdSpT16 rd imm8 => Sys2Proof.Machine.execAddRdSpT16 rd imm8 s
  | .addSpSpT16 imm7 => Sys2Proof.Machine.execAddSpSpT16 imm7 s
  | .subSpSpT16 imm7 => Sys2Proof.Machine.execSubSpSpT16 imm7 s
  | .bT16 imm11 => Sys2Proof.Machine.execBT16 imm11 s
  | .unknown unit => Sys2Proof.Machine.execUnknown unit s

end Sys2Proof.Machine
end

