-- ==== Sys2Proof/Machine/Sequencer.lean ====
section
/-! DEFINITION. The sequencer's parts (43_sequencer.md R190 to R199): fetch by cumulative sizes, the checks before
an execution, the completion after it, run entry, and loading an image. -/

namespace Sys2Proof.Machine

/-! ### Fetch (R191, R197) -/

/-- Scan the sequence, summing sizes from `off`, for the record whose offset is `pc` (R191). -/
def fetchFrom : List Instr → Nat → Nat → Option Instr
  | [], _, _ => none
  | i :: rest, off, pc => if off = pc then some i else fetchFrom rest (off + i.size.bytes) pc

/-- The record at `pc`, if any (R191). -/
def State.fetch (s : State) : Option Instr := fetchFrom s.records 0 s.pc.toNat

/-- The sum of the sizes of a sequence: the offset just past it (R191). -/
def bytesOf (records : List Instr) : Nat := (records.map fun i => i.size.bytes).sum

/-- The offset of record `i`: the sum of the sizes of all records before it (R191). -/
def offsetOf (records : List Instr) (i : Nat) : Nat := bytesOf (records.take i)

/-- The variable-width fetch in hardware terms: one comparison against the region boundary (R197). The
arguments are `A32_BYTES`, the image's length `L`, the decoded sequence and the pc. -/
def boundaryFetch (a32Bytes length : Nat) (records : List Instr) (pc : Nat) : Option Instr :=
  if pc < a32Bytes then (if pc % 4 = 0 then records[pc / 4]? else none)
  else if pc < length then (if pc % 2 = 0 then records[a32Bytes / 4 + (pc - a32Bytes) / 2]? else none)
  else none

/-! ### The checks of one cycle (R192, R195) -/

/-- What a cycle does before it executes. -/
inductive Issue where
  /-- The run is HALTED: no step happens (R195). -/
  | stay
  /-- The cycle ends the run for this reason (R192 steps 1 and 2). -/
  | halt (reason : HaltReason)
  /-- The cycle executes this record (R192 step 3). -/
  | run (i : Instr)
  deriving DecidableEq, Repr

/-- The budget is checked first and the fetch second (R192, R193; 60_exceptions.md R214). -/
def State.issue (s : State) : Issue :=
  match s.runState with
  | .halted => .stay
  | .running =>
    if s.cycles = s.maxCycles then .halt .boundReached
    else
      match s.fetch with
      | none => .halt .outOfBounds
      | some i => .run i

/-- Completion (R192 step 4): one cycle is counted, unless the record halted the run (10_state.md R40). -/
def State.complete (s : State) : State :=
  match s.runState with
  | .running => { s with cycles := s.cycles + 1 }
  | .halted => s

/-- Completion on an outcome of the executor. -/
def completeCycle : Result → Result
  | .next t => .next t.complete
  | .fault f => .fault f
  | .refused r => .refused r

/-! ### Run entry (R190) and loading (70_reset_and_hazards.md R234) -/

/-- Run entry: the sequencer's status is reset. Registers, flags, memory and `pc` are taken as given (R190;
10_state.md R46). -/
def State.enterRun (s : State) (records : List Instr) (maxCycles : Nat) : State :=
  { s with
    runState := .running
    haltReason := .none
    cycles := 0
    diagnostics := []
    records := records
    maxCycles := maxCycles }

/-- Decode an image and enter a run on it (R234 steps 3 to 5). TRUNCATED_INPUT starts no run (60_exceptions.md
R210), and an image over 2^31 bytes is refused (30_encoding.md R71). -/
def State.load (s : State) (buf : List Byte) (a32Bytes maxCycles : Nat) : Result :=
  match decodeImage buf a32Bytes with
  | .ok records => .next (s.enterRun records maxCycles)
  | .error .truncatedInput => .fault .truncatedInput
  | .error .imageTooLarge => .refused .imageTooLarge

/-- A state whose next step runs one given instruction: a one-record program at offset 0, the run RUNNING, and
one more cycle in the budget where it was used up (log entry 3). -/
def State.placeInstr (s : State) (i : Instr) : State :=
  { s with
    records := [i]
    pc := 0
    runState := .running
    haltReason := .none
    maxCycles := if s.cycles = s.maxCycles then s.cycles + 1 else s.maxCycles }

/-- `placeInstr` on a word of the opcode table. A word the decoder refuses places nothing. -/
def State.placeWord (s : State) (nbits w : Nat) : State :=
  match decodeTableWord nbits w with
  | some i => s.placeInstr i
  | none => s

end Sys2Proof.Machine
end

