-- ==== Sys2Proof/Machine/Step.lean ====
section
/-! DEFINITION. One step: one cycle of the sequencer (43_sequencer.md R192). A halt is a next state, since the spec
describes the halted machine, and a HALTED machine steps to itself (R195; log entry 2). -/

namespace Sys2Proof.Machine

/-- `step()` (R192). -/
def step (s : State) : Host.Outcome State Fault Refusal :=
  match s.issue with
  | .stay => .next s
  | .halt reason => .next (s.halt reason)
  | .run i => completeCycle (exec i s)

/-- The state with one table word placed where the next step fetches. -/
def State.withFetchWord (s : State) (nbits w : Nat) : State := s.placeWord nbits w

end Sys2Proof.Machine
end

