-- ==== Sys2Proof/Machine/Records.lean ====
section
/-! DEFINITION. The executor on instruction records (43_sequencer.md R194): one rule for each op, the choice total
and with no default arm. It also covers a record that no encoding gives, a BL of size 2 (42_branch.md R181). -/

namespace Sys2Proof.Machine

/-- Apply the one rule of the record's op (R194). -/
def execRecord (r : Record) (s : State) : Result :=
  match r.op with
  | .add rd rn src2 => opAdd r.size rd rn src2 s
  | .adds rd rn src2 => opAdds r.size rd rn src2 s
  | .sub rd rn src2 => opSub r.size rd rn src2 s
  | .subs rd rn src2 => opSubs r.size rd rn src2 s
  | .and rd rn src2 => opAnd r.size rd rn src2 s
  | .orr rd rn src2 => opOrr r.size rd rn src2 s
  | .eor rd rn src2 => opEor r.size rd rn src2 s
  | .mov rd src2 => opMov r.size rd src2 s
  | .movs rd src2 => opMovs r.size rd src2 s
  | .cmp rn src2 => opCmp r.size rn src2 s
  | .ldr rd rn imm => opLdr r.size rd rn imm s
  | .str rd rn imm => opStr r.size rd rn imm s
  | .b offset => opB offset s
  | .bl offset => opBl offset s
  | .bx rm => opBx rm s
  | .unknown => opUnknown r.size r.raw s

end Sys2Proof.Machine
end

