-- ==== Sys2Proof/Machine/Run.lean ====
section
/-! DEFINITION. Whole runs (43_sequencer.md R190) and what the host reads (60_exceptions.md R216). -/

namespace Sys2Proof.Machine

/-- `k` cycles. -/
def stepN : Nat → State → Result
  | 0, s => .next s
  | k + 1, s =>
    match step s with
    | .next t => stepN k t
    | .fault f => .fault f
    | .refused r => .refused r

/-- Step until the run is HALTED. Every step that does not halt counts a cycle, so what is left of the budget and one
step more are enough (R192). -/
def runToHalt (s : State) : Result := stepN (s.maxCycles - s.cycles + 1) s

/-- `run(records, state, MAX_CYCLES)` (R190), with the default budget of 00_scope.md R8. -/
def run (records : List Instr) (s : State) (maxCycles : Nat := Config.defaultMaxCycles) : Result :=
  runToHalt (s.enterRun records maxCycles)

/-- Load a program image and run it (70_reset_and_hazards.md R234). -/
def runImage (buf : List Byte) (a32Bytes : Nat) (s : State) (maxCycles : Nat := Config.defaultMaxCycles) : Result :=
  match s.load buf a32Bytes maxCycles with
  | .next t => runToHalt t
  | .fault f => .fault f
  | .refused r => .refused r

/-- `RunResult` (R190). -/
structure RunResult where
  haltReason : HaltReason
  cycles : Nat
  deriving DecidableEq, Repr

/-- The RunResult of a halted state. -/
def State.runResult (s : State) : RunResult := { haltReason := s.haltReason, cycles := s.cycles }

/-- What the host reads after every cycle (60_exceptions.md R216). It reads every register, the pc, the flags, the
memory and the sequencer's status. -/
structure HostView where
  regs : Vector Word 16
  pc : Word
  flags : Flags
  mem : Memory
  cycles : Nat
  runState : RunState
  haltReason : HaltReason
  diagnostics : List Diagnostic
  deriving DecidableEq, Repr

def State.hostView (s : State) : HostView where
  regs := s.regs
  pc := s.pc
  flags := s.flags
  mem := s.mem
  cycles := s.cycles
  runState := s.runState
  haltReason := s.haltReason
  diagnostics := s.diagnostics

/-- The host's reads over `k` cycles, the state given first (R216, R224). -/
def hostTrace : Nat → State → List HostView
  | 0, s => [s.hostView]
  | k + 1, s =>
    s.hostView ::
      match step s with
      | .next t => hostTrace k t
      | .fault _ => []
      | .refused _ => []

end Sys2Proof.Machine
end

