-- ==== Sys2Proof/WellFormed.lean ====
section
/-! DEFINITION. Well-formed instructions. The fields of every form have the width of their encoding, so every
such term is well-formed. An UNKNOWN instruction is well-formed iff its unit fits no row of its format
(30_encoding.md R75, R76). -/

namespace Sys2Proof

/-- The unit fits no row of its format. -/
def CodeUnit.unrecognised : CodeUnit → Bool
  | .a32 w => rowsA32.all fun r => !r.fits w
  | .t16 h => rowsT16.all fun r => !r.fits h

/-- The check on instructions: the fallback applies only to a unit that matches no other row (R76). -/
def Instr.wellFormed : Instr → Bool
  | .unknown unit => unit.unrecognised
  | _ => true

end Sys2Proof
end

