-- ==== Sys2Proof/Safety.lean ====
section
/-! DEFINITION. The invariant of the machine and what counts as a safe run. -/

namespace Sys2Proof.Machine

/-- The sequencer's status is legal: NONE exactly while RUNNING (10_state.md R39), the counter within the budget
(R40), and the reason agrees with the counter (43_sequencer.md R196). -/
def State.statusOk (s : State) : Prop :=
  (s.runState = .running ↔ s.haltReason = .none) ∧
  s.cycles ≤ s.maxCycles ∧
  (s.haltReason = .boundReached → s.cycles = s.maxCycles) ∧
  (s.haltReason = .outOfBounds ∨ s.haltReason = .memoryViolation → s.cycles < s.maxCycles)

/-- The instruction store is what a decoder can produce: well-formed records (30_encoding.md R76), an image of at
most 2^31 bytes (10_state.md R31), and the A32 records before the T16 records (30_encoding.md R74). -/
def State.storeOk (s : State) : Prop :=
  (∀ i ∈ s.records, i.wellFormed = true) ∧
  bytesOf s.records ≤ Config.maxImageBytes ∧
  s.records.Pairwise fun i j => i.size = .two → j.size = .two

/-- Each completed cycle reports at most one UNKNOWN record (10_state.md R41). -/
def State.reportsOk (s : State) : Prop := s.diagnostics.length ≤ s.cycles

/-- The invariant of a run. -/
def State.Inv (s : State) : Prop := s.mem.wf ∧ s.statusOk ∧ s.storeOk ∧ s.reportsOk

/-- A safe end: the run did not end with the fatal reason (60_exceptions.md R212). -/
def State.safe (s : State) : Prop := s.haltReason.fatal = false

end Sys2Proof.Machine
end

