-- ==== Sys2Proof/Certificates/Slice0/Obligations.lean ====
section
/-! DEFINITION. The statements for the provers, with the vocabulary they are written in. -/

namespace Sys2Proof.Claims

open Sys2Proof.Machine

/-! ### Vocabulary: what stays the same -/

/-- Every byte of memory reads as before. -/
def MemorySame (s t : State) : Prop := ∀ a, t.mem.readByte a = s.mem.readByte a

/-- Every register reads as before. -/
def RegistersSame (s t : State) : Prop := ∀ r, t.reg r = s.reg r

/-- Every register but `rd` reads as before. -/
def RegistersSameBut (rd : Reg) (s t : State) : Prop := ∀ r, r ≠ rd → t.reg r = s.reg r

/-- The run's status, its budget and the instruction store are as before. -/
def RunSame (s t : State) : Prop :=
  t.runState = s.runState ∧ t.haltReason = s.haltReason ∧ t.cycles = s.cycles ∧ t.maxCycles = s.maxCycles ∧
  t.records = s.records

/-- The frame of a register-only record: memory, reports, run status and store as before. -/
def RestSame (s t : State) : Prop := MemorySame s t ∧ t.diagnostics = s.diagnostics ∧ RunSame s t

/-- `pc <- u32(pc + rec.size)` (10_state.md R29, R30). -/
def Advanced (i : Instr) (s t : State) : Prop := t.pc = BitVec.ofNat 32 (s.pc.toNat + i.size.bytes)

/-- The four bytes at `a`, little-endian: `mem[a] | mem[a+1] << 8 | mem[a+2] << 16 | mem[a+3] << 24` (20_memory.md
R52). -/
def littleEndian (m : Memory) (a : Nat) : Word :=
  (m.readByte a).setWidth 32 ||| (m.readByte (a + 1)).setWidth 32 <<< 8 |||
  (m.readByte (a + 2)).setWidth 32 <<< 16 ||| (m.readByte (a + 3)).setWidth 32 <<< 24

/-- The op of an A32 data-processing word by its opcode and S bit: the table of 30_encoding.md R78, with the
should-be-zero fields of R81. -/
def dataProcessingOp (opcode : BitVec 4) (sBit : BitVec 1) (rn rd : BitVec 4) (src2 : Src2) : Op :=
  match opcode.toNat, sBit.toNat with
  | 0b0000, 0 => .and (reg4 rd) (reg4 rn) src2
  | 0b0001, 0 => .eor (reg4 rd) (reg4 rn) src2
  | 0b0010, 0 => .sub (reg4 rd) (reg4 rn) src2
  | 0b0010, 1 => .subs (reg4 rd) (reg4 rn) src2
  | 0b0100, 0 => .add (reg4 rd) (reg4 rn) src2
  | 0b0100, 1 => .adds (reg4 rd) (reg4 rn) src2
  | 0b1100, 0 => .orr (reg4 rd) (reg4 rn) src2
  | 0b1101, 0 => if rn = 0 then .mov (reg4 rd) src2 else .unknown
  | 0b1101, 1 => if rn = 0 then .movs (reg4 rd) src2 else .unknown
  | 0b1010, 1 => if rd = 0 then .cmp (reg4 rn) src2 else .unknown
  | _, _ => .unknown

/-- The word of a buffer at position `p` (30_encoding.md R72). -/
def wordAt (buf : List Byte) (p : Nat) : Word :=
  (buf.getD p 0).setWidth 32 ||| (buf.getD (p + 1) 0).setWidth 32 <<< 8 |||
  (buf.getD (p + 2) 0).setWidth 32 <<< 16 ||| (buf.getD (p + 3) 0).setWidth 32 <<< 24

/-- The halfword of a buffer at position `p` (R73). -/
def halfAt (buf : List Byte) (p : Nat) : Half :=
  (buf.getD p 0).setWidth 16 ||| (buf.getD (p + 1) 0).setWidth 16 <<< 8

/-- A data-processing op. -/
def isDataProcessing : Op → Prop
  | .add _ _ _ | .adds _ _ _ | .sub _ _ _ | .subs _ _ _ | .and _ _ _ | .orr _ _ _ | .eor _ _ _ => True
  | .mov _ _ | .movs _ _ | .cmp _ _ => True
  | .ldr _ _ _ | .str _ _ _ | .b _ | .bl _ | .bx _ | .unknown => False

/-- The ops that write flags (10_state.md R35). -/
def setsFlags : Op → Prop
  | .adds _ _ _ | .subs _ _ _ | .cmp _ _ | .movs _ _ => True
  | .add _ _ _ | .sub _ _ _ | .and _ _ _ | .orr _ _ _ | .eor _ _ _ | .mov _ _ => False
  | .ldr _ _ _ | .str _ _ _ | .b _ | .bl _ | .bx _ | .unknown => False

/-- The op is a load or a store of base `rn` and offset `imm`. -/
def accesses (op : Op) (rn : Reg) (imm : Int) : Prop := ∃ rd, op = .ldr rd rn imm ∨ op = .str rd rn imm

/-- The new pc of a record that completes: the table of 10_state.md R29. -/
def newPc (i : Instr) (s : State) : Word :=
  match i.op with
  | .b offset | .bl offset => BitVec.ofInt 32 (s.pc.toNat + offset)
  | .bx rm => s.reg rm
  | .add _ _ _ | .adds _ _ _ | .sub _ _ _ | .subs _ _ _ | .and _ _ _ | .orr _ _ _ | .eor _ _ _ | .mov _ _
  | .movs _ _ | .cmp _ _ | .ldr _ _ _ | .str _ _ _ | .unknown => BitVec.ofNat 32 (s.pc.toNat + i.size.bytes)

end Sys2Proof.Claims

open Sys2Proof Sys2Proof.Machine Sys2Proof.Claims

/-! ### Encoding -/

/-- A few words written out from the spec's encodings decode to the instructions they stand for (95_test_vectors.md
L2-A, L2-B). -/
def Obligations.SampleWordsDecode : Prop :=
  (decode (.a32 0b1110_00_0_0100_0_0001_0000_00000000_0010)).op = .add 0 1 (.reg 2) ∧
  (decode (.a32 0b1110_00_1_1101_0_0000_0011_0100_11111111)).op = .mov 3 (.imm 0xFF000000) ∧
  (decode (.a32 0b1110_01_0_1_0_0_0_0_0001_0000_000000000100)).op = .str 0 1 (-4) ∧
  (decode (.a32 0b1110_1011_000000000000000000000100)).op = .bl 16 ∧
  (decode (.a32 0b1110_000100101111111111110001_1110)).op = .bx 14 ∧
  (decode (.t16 0b0001110_111_001_000)).op = .adds 0 1 (.imm 7) ∧
  (decode (.t16 0b10010_001_00000001)).op = .str 1 13 4 ∧
  (decode (.t16 0b01000110_1_1110_111)).op = .mov 15 (.reg 14) ∧
  decode (.a32 0xE0010092) = .unknown (.a32 0xE0010092)

/-- Decoding an encoded well-formed instruction gives it back, for every instruction and every operand value. -/
def Obligations.DecodeEncodeRoundTrip : Prop := ∀ i : Instr, i.wellFormed = true → decode (encode i) = i

/-- The other direction: every unit decodes to a well-formed instruction, and encoding it gives the unit back, so no
bit of a unit is dropped (`raw` holds the encoded bits, 10_state.md R32). -/
def Obligations.EncodeDecodeKeepsEveryBit : Prop :=
  ∀ u : CodeUnit, (decode u).wellFormed = true ∧ encode (decode u) = u

/-- 30_encoding.md R75: a unit that matches no form, and only such a unit, is an UNKNOWN record; and every record has its
region's size and the unit's bits. -/
def Obligations.UnknownExactlyWhenNoRowFits : Prop :=
  (∀ w : Word, decode32 w = .unknown (.a32 w) ↔ ∀ r ∈ rowsA32, w &&& r.mask ≠ r.pattern) ∧
  (∀ h : Half, decode16 h = .unknown (.t16 h) ↔ ∀ r ∈ rowsT16, h &&& r.mask ≠ r.pattern) ∧
  (∀ u : CodeUnit, (decode u).op = .unknown ↔ decode u = .unknown u) ∧
  (∀ w : Word, (decode32 w).record.size = .four ∧ (decode32 w).record.raw = w) ∧
  (∀ h : Half, (decode16 h).record.size = .two ∧ (decode16 h).record.raw = h.setWidth 32)

/-- 30_encoding.md R76: there are 25 A32 rows and 21 T16 rows, and no unit fits two rows. -/
def Obligations.NoUnitFitsTwoRows : Prop :=
  rowsA32.length = 25 ∧ rowsT16.length = 21 ∧
  (∀ w : Word, rowsA32.Pairwise fun p q => ¬ (w &&& p.mask = p.pattern ∧ w &&& q.mask = q.pattern)) ∧
  (∀ h : Half, rowsT16.Pairwise fun p q => ¬ (h &&& p.mask = p.pattern ∧ h &&& q.mask = q.pattern))

/-- 30_encoding.md R77: a word whose condition is not 0b1110 is UNKNOWN. -/
def Obligations.ConditionalWordsAreUnknown : Prop :=
  ∀ w : Word, w.extractLsb' 28 4 ≠ 0b1110 → decode32 w = .unknown (.a32 w)

/-- 30_encoding.md R78, R79, R81, R82: every word with `w[31:25] = 1110 001` has the op and operands of the data-processing
table, with the rotated immediate, and is UNKNOWN where the table says so. -/
def Obligations.A32ImmediateDataProcessingRecords : Prop :=
  ∀ w : Word, w.extractLsb' 25 7 = 0b1110001 →
    (decode32 w).op =
      dataProcessingOp (w.extractLsb' 21 4) (w.extractLsb' 20 1) (w.extractLsb' 16 4) (w.extractLsb' 12 4)
        (.imm (((w.extractLsb' 0 8).setWidth 32).rotateRight (2 * (w.extractLsb' 8 4).toNat)))

/-- 30_encoding.md R78, R80, R81, R82: the same for `w[31:25] = 1110 000` with `w[11:4] = 0`; with `w[11:4] ≠ 0` the word is
UNKNOWN unless it is the BX form. -/
def Obligations.A32RegisterDataProcessingRecords : Prop :=
  ∀ w : Word, w.extractLsb' 25 7 = 0b1110000 →
    (w.extractLsb' 4 8 = 0 →
      (decode32 w).op =
        dataProcessingOp (w.extractLsb' 21 4) (w.extractLsb' 20 1) (w.extractLsb' 16 4) (w.extractLsb' 12 4)
          (.reg (reg4 (w.extractLsb' 0 4)))) ∧
    (w.extractLsb' 4 8 ≠ 0 → w &&& 0xFFFFFFF0 ≠ 0xE12FFF10 → (decode32 w).op = .unknown)

/-- 30_encoding.md R83: every word with `w[31:26] = 1110 01` is LDR or STR with the signed offset if I = 0, P = 1, B = 0 and
W = 0, and UNKNOWN otherwise. -/
def Obligations.A32LoadStoreRecords : Prop :=
  ∀ w : Word, w.extractLsb' 26 6 = 0b111001 →
    let rd := reg4 (w.extractLsb' 12 4)
    let rn := reg4 (w.extractLsb' 16 4)
    let magnitude : Int := (w.extractLsb' 0 12).toNat
    let imm : Int := if w.getLsbD 23 then magnitude else -magnitude
    (decode32 w).op =
      if w.getLsbD 25 = false ∧ w.getLsbD 24 = true ∧ w.getLsbD 22 = false ∧ w.getLsbD 21 = false then
        (if w.getLsbD 20 then .ldr rd rn imm else .str rd rn imm)
      else .unknown

/-- 30_encoding.md R84, R85: the A32 branch forms with their offsets, the range of every offset a record can have, and BX; BX
with another condition and the BLX register form are UNKNOWN. -/
def Obligations.A32BranchRecords : Prop :=
  (∀ w : Word, w.extractLsb' 25 7 = 0b1110101 →
    let offset : Int := ((w.extractLsb' 0 24).toInt) * 4
    (decode32 w).op = (if w.getLsbD 24 then .bl offset else .b offset) ∧
    -(2 ^ 25) ≤ offset ∧ offset ≤ 2 ^ 25 - 4) ∧
  (∀ (u : CodeUnit) (offset : Int), (decode u).op = .b offset ∨ (decode u).op = .bl offset →
    -(2 ^ 25) ≤ offset ∧ offset ≤ 2 ^ 25 ∧ offset % 2 = 0) ∧
  (∀ w : Word, w &&& 0xFFFFFFF0 = 0xE12FFF10 → (decode32 w).op = .bx (reg4 (w.extractLsb' 0 4))) ∧
  (∀ w : Word, w &&& 0x0FFFFFF0 = 0x012FFF10 → w.extractLsb' 28 4 ≠ 0b1110 → (decode32 w).op = .unknown) ∧
  (∀ w : Word, w &&& 0xFFFFFFF0 = 0xE12FFF30 → (decode32 w).op = .unknown)

/-- 30_encoding.md R86: the remaining classes (block transfers, coprocessor, SVC) are UNKNOWN. -/
def Obligations.OtherA32ClassesAreUnknown : Prop :=
  ∀ w : Word, w.extractLsb' 25 3 = 0b100 ∨ w.extractLsb' 26 2 = 0b11 → decode32 w = .unknown (.a32 w)

/-- 30_encoding.md R101 to R108. -/
def Obligations.T16FlagSettingForms : Prop :=
  ∀ h : Half,
    let lo3 := reg3 (h.extractLsb' 0 3)
    let mid3 := reg3 (h.extractLsb' 3 3)
    let hi3 := reg3 (h.extractLsb' 8 3)
    let imm8 : Src2 := .imm ((h.extractLsb' 0 8).setWidth 32)
    let imm3 : Src2 := .imm ((h.extractLsb' 6 3).setWidth 32)
    let rm : Src2 := .reg (reg3 (h.extractLsb' 6 3))
    (h &&& 0xF800 = 0x2000 → (decode16 h).op = .movs hi3 imm8) ∧
    (h &&& 0xF800 = 0x2800 → (decode16 h).op = .cmp hi3 imm8) ∧
    (h &&& 0xF800 = 0x3000 → (decode16 h).op = .adds hi3 hi3 imm8) ∧
    (h &&& 0xF800 = 0x3800 → (decode16 h).op = .subs hi3 hi3 imm8) ∧
    (h &&& 0xFE00 = 0x1800 → (decode16 h).op = .adds lo3 mid3 rm) ∧
    (h &&& 0xFE00 = 0x1A00 → (decode16 h).op = .subs lo3 mid3 rm) ∧
    (h &&& 0xFE00 = 0x1C00 → (decode16 h).op = .adds lo3 mid3 imm3) ∧
    (h &&& 0xFE00 = 0x1E00 → (decode16 h).op = .subs lo3 mid3 imm3)

/-- 30_encoding.md R109 to R113. -/
def Obligations.T16RegisterForms : Prop :=
  ∀ h : Half,
    let lo3 := reg3 (h.extractLsb' 0 3)
    let mid3 := reg3 (h.extractLsb' 3 3)
    let mid4 := reg4 (h.extractLsb' 3 4)
    let split4 := reg4 (h.extractLsb' 7 1 ++ h.extractLsb' 0 3)
    (h &&& 0xFFC0 = 0x0000 → (decode16 h).op = .movs lo3 (.reg mid3)) ∧
    (h.extractLsb' 11 5 = 0 → h.extractLsb' 6 5 ≠ 0 → (decode16 h).op = .unknown) ∧
    (h &&& 0xFFC0 = 0x4280 → (decode16 h).op = .cmp lo3 (.reg mid3)) ∧
    (h &&& 0xFF00 = 0x4400 → (decode16 h).op = .add split4 split4 (.reg mid4)) ∧
    (h &&& 0xFF00 = 0x4600 → (decode16 h).op = .mov split4 (.reg mid4)) ∧
    (h &&& 0xFF87 = 0x4700 → (decode16 h).op = .bx mid4) ∧
    (h &&& 0xFF00 = 0x4700 → h.getLsbD 7 = true ∨ h.extractLsb' 0 3 ≠ 0 → (decode16 h).op = .unknown)

/-- 30_encoding.md R114 to R121. -/
def Obligations.T16AddressAndBranchForms : Prop :=
  ∀ h : Half,
    let lo3 := reg3 (h.extractLsb' 0 3)
    let mid3 := reg3 (h.extractLsb' 3 3)
    let hi3 := reg3 (h.extractLsb' 8 3)
    let imm5 : Int := 4 * (h.extractLsb' 6 5).toNat
    let imm8 : Nat := 4 * (h.extractLsb' 0 8).toNat
    let imm7 : Nat := 4 * (h.extractLsb' 0 7).toNat
    let offset : Int := 2 * (h.extractLsb' 0 11).toInt
    (h &&& 0xF800 = 0x6000 → (decode16 h).op = .str lo3 mid3 imm5) ∧
    (h &&& 0xF800 = 0x6800 → (decode16 h).op = .ldr lo3 mid3 imm5) ∧
    (h &&& 0xF800 = 0x9000 → (decode16 h).op = .str hi3 13 imm8) ∧
    (h &&& 0xF800 = 0x9800 → (decode16 h).op = .ldr hi3 13 imm8) ∧
    (h &&& 0xF800 = 0xA800 → (decode16 h).op = .add hi3 13 (.imm (BitVec.ofNat 32 imm8))) ∧
    (h &&& 0xFF80 = 0xB000 → (decode16 h).op = .add 13 13 (.imm (BitVec.ofNat 32 imm7))) ∧
    (h &&& 0xFF80 = 0xB080 → (decode16 h).op = .sub 13 13 (.imm (BitVec.ofNat 32 imm7))) ∧
    (h &&& 0xF800 = 0xE000 → (decode16 h).op = .b offset ∧ -2048 ≤ offset ∧ offset ≤ 2046)

/-- 30_encoding.md R122: a halfword that matches no form is UNKNOWN, and so are the classes the rule lists; no halfword is a
BL (R123). -/
def Obligations.T16UnknownClasses : Prop :=
  ∀ h : Half,
    ((∀ r ∈ rowsT16, h &&& r.mask ≠ r.pattern) → decode16 h = .unknown (.t16 h)) ∧
    (h.toNat ≤ 0x17FF → h &&& 0xFFC0 ≠ 0x0000 → decode16 h = .unknown (.t16 h)) ∧
    (0x4000 ≤ h.toNat ∧ h.toNat ≤ 0x43FF → h &&& 0xFFC0 ≠ 0x4280 → decode16 h = .unknown (.t16 h)) ∧
    (0x4500 ≤ h.toNat ∧ h.toNat ≤ 0x45FF → decode16 h = .unknown (.t16 h)) ∧
    (0x4780 ≤ h.toNat ∧ h.toNat ≤ 0x5FFF → decode16 h = .unknown (.t16 h)) ∧
    (0x7000 ≤ h.toNat ∧ h.toNat ≤ 0x8FFF → decode16 h = .unknown (.t16 h)) ∧
    (0xA000 ≤ h.toNat ∧ h.toNat ≤ 0xA7FF → decode16 h = .unknown (.t16 h)) ∧
    (0xB100 ≤ h.toNat ∧ h.toNat ≤ 0xDFFF → decode16 h = .unknown (.t16 h)) ∧
    (0xE800 ≤ h.toNat → decode16 h = .unknown (.t16 h)) ∧
    (∀ offset, (decode16 h).op ≠ .bl offset)

/-- 30_encoding.md R71: when the decoder fails with TRUNCATED_INPUT, when the model refuses the image, and when it answers
records. That truncation is tested before the size is the model's choice (log entry 8). -/
def Obligations.TruncatedInputExactly : Prop :=
  ∀ (buf : List Byte) (a32Bytes : Nat),
    let bad := a32Bytes % 4 ≠ 0 ∨ buf.length < a32Bytes ∨ (buf.length - a32Bytes) % 2 ≠ 0
    (decodeImage buf a32Bytes = .error .truncatedInput ↔ bad) ∧
    (decodeImage buf a32Bytes = .error .imageTooLarge ↔ ¬ bad ∧ 2 ^ 31 < buf.length) ∧
    ((∃ records, decodeImage buf a32Bytes = .ok records) ↔ ¬ bad ∧ buf.length ≤ 2 ^ 31)

/-- 30_encoding.md R72, R73, R74: the records of an image in buffer order, each at its offset and with its
region's size. -/
def Obligations.ImageRecordsInBufferOrder : Prop :=
  ∀ (buf : List Byte) (a32Bytes : Nat) (records : List Instr), decodeImage buf a32Bytes = .ok records →
    let nA := a32Bytes / 4
    let nT := (buf.length - a32Bytes) / 2
    records.length = nA + nT ∧
    (∀ k, k < nA → records[k]? = some (decode32 (wordAt buf (4 * k))) ∧ offsetOf records k = 4 * k ∧
      (decode32 (wordAt buf (4 * k))).size = .four) ∧
    (∀ j, j < nT → records[nA + j]? = some (decode16 (halfAt buf (a32Bytes + 2 * j))) ∧
      offsetOf records (nA + j) = a32Bytes + 2 * j ∧ (decode16 (halfAt buf (a32Bytes + 2 * j))).size = .two)

/-- Decoding the image of a sequence of well-formed instructions, A32 before T16, gives the sequence back. -/
def Obligations.ImageRoundTrip : Prop :=
  ∀ words halves : List Instr,
    (∀ i ∈ words, i.wellFormed = true ∧ i.size = .four) → (∀ i ∈ halves, i.wellFormed = true ∧ i.size = .two) →
    4 * words.length + 2 * halves.length ≤ 2 ^ 31 →
    decodeImage (encodeBytes (words ++ halves)) (4 * words.length) = .ok (words ++ halves)

/-- 30_encoding.md R127: every data-processing record that the decoder can produce has an A32 encoding that decodes back to
it. -/
def Obligations.DataProcessingHasA32Encoding : Prop :=
  ∀ u : CodeUnit, isDataProcessing (decode u).op → ∃ w : Word, (decode32 w).op = (decode u).op

/-! ### The ALU and the flags -/

/-- What C and V mean, from R151 and R152 with R154 and R155: C is the unsigned carry or the absence of a borrow, and V says
that the exact signed result does not fit 32 bits. -/
def Obligations.CarryAndOverflowMeaning : Prop :=
  ∀ (a b : Word) (old : Flags),
    ((flagUnit (alu .add a b) old).c = true ↔ 2 ^ 32 ≤ a.toNat + b.toNat) ∧
    ((flagUnit (alu .add a b) old).v = true ↔
      a.toInt + b.toInt < -(2 ^ 31) ∨ 2 ^ 31 ≤ a.toInt + b.toInt) ∧
    ((flagUnit (alu .sub a b) old).c = true ↔ b.toNat ≤ a.toNat) ∧
    ((flagUnit (alu .sub a b) old).v = true ↔
      a.toInt - b.toInt < -(2 ^ 31) ∨ 2 ^ 31 ≤ a.toInt - b.toInt)

/-- 40_alu.md R141. The forms are addImmA32, addRegA32, addRegT16, addRdSpT16 and addSpSpT16. -/
def Obligations.AddWritesSum : Prop :=
  ∀ (i : Instr) (s : State) (rd rn : Reg) (src2 : Src2), i.op = .add rd rn src2 →
    ∃ t, exec i s = .next t ∧
      t.reg rd = BitVec.ofNat 32 ((s.reg rn).toNat + (op2 src2 s).toNat) ∧ RegistersSameBut rd s t ∧
      t.flags = s.flags ∧ Advanced i s t ∧ RestSame s t

/-- 40_alu.md R142, R151. The forms are addsImmA32, addsRegA32, addsImm8T16, addsRegT16 and addsImm3T16. -/
def Obligations.AddsWritesSumAndFlags : Prop :=
  ∀ (i : Instr) (s : State) (rd rn : Reg) (src2 : Src2), i.op = .adds rd rn src2 →
    let a := s.reg rn
    let b := op2 src2 s
    let r : Word := BitVec.ofNat 32 (a.toNat + b.toNat)
    ∃ t, exec i s = .next t ∧ t.reg rd = r ∧ RegistersSameBut rd s t ∧
      (t.flags.z = true ↔ r = 0) ∧ t.flags.n = r.getLsbD 31 ∧
      (t.flags.c = true ↔ a.toNat + b.toNat > 0xFFFFFFFF) ∧
      (t.flags.v = true ↔ a.getLsbD 31 = b.getLsbD 31 ∧ r.getLsbD 31 ≠ a.getLsbD 31) ∧
      Advanced i s t ∧ RestSame s t

/-- 40_alu.md R143. The forms are subImmA32, subRegA32 and subSpSpT16. -/
def Obligations.SubWritesDifference : Prop :=
  ∀ (i : Instr) (s : State) (rd rn : Reg) (src2 : Src2), i.op = .sub rd rn src2 →
    ∃ t, exec i s = .next t ∧
      t.reg rd = BitVec.ofInt 32 ((s.reg rn).toNat - (op2 src2 s).toNat) ∧ RegistersSameBut rd s t ∧
      t.flags = s.flags ∧ Advanced i s t ∧ RestSame s t

/-- 40_alu.md R144, R152. The forms are subsImmA32, subsRegA32, subsImm8T16, subsRegT16 and subsImm3T16. -/
def Obligations.SubsWritesDifferenceAndFlags : Prop :=
  ∀ (i : Instr) (s : State) (rd rn : Reg) (src2 : Src2), i.op = .subs rd rn src2 →
    let a := s.reg rn
    let b := op2 src2 s
    let r : Word := BitVec.ofInt 32 (a.toNat - b.toNat)
    ∃ t, exec i s = .next t ∧ t.reg rd = r ∧ RegistersSameBut rd s t ∧
      (t.flags.z = true ↔ r = 0) ∧ t.flags.n = r.getLsbD 31 ∧
      (t.flags.c = true ↔ a.toNat ≥ b.toNat) ∧
      (t.flags.v = true ↔ a.getLsbD 31 ≠ b.getLsbD 31 ∧ r.getLsbD 31 ≠ a.getLsbD 31) ∧
      Advanced i s t ∧ RestSame s t

/-- 40_alu.md R145. The forms are movImmA32, movRegA32 and movRegT16. -/
def Obligations.MovCopiesOperand : Prop :=
  ∀ (i : Instr) (s : State) (rd : Reg) (src2 : Src2), i.op = .mov rd src2 →
    ∃ t, exec i s = .next t ∧ t.reg rd = op2 src2 s ∧ RegistersSameBut rd s t ∧
      t.flags = s.flags ∧ Advanced i s t ∧ RestSame s t

/-- 40_alu.md R146, R153: C and V keep their values. The forms are movsImmA32, movsRegA32, movsImm8T16 and movsRegT16. -/
def Obligations.MovsCopiesOperandSetsZN : Prop :=
  ∀ (i : Instr) (s : State) (rd : Reg) (src2 : Src2), i.op = .movs rd src2 →
    let r := op2 src2 s
    ∃ t, exec i s = .next t ∧ t.reg rd = r ∧ RegistersSameBut rd s t ∧
      (t.flags.z = true ↔ r = 0) ∧ t.flags.n = r.getLsbD 31 ∧ t.flags.c = s.flags.c ∧ t.flags.v = s.flags.v ∧
      Advanced i s t ∧ RestSame s t

/-- 40_alu.md R147, R152: the flags of SUBS and no register written. The forms are cmpImmA32, cmpRegA32, cmpImm8T16 and
cmpRegT16. -/
def Obligations.CmpSetsFlagsOnly : Prop :=
  ∀ (i : Instr) (s : State) (rn : Reg) (src2 : Src2), i.op = .cmp rn src2 →
    let a := s.reg rn
    let b := op2 src2 s
    let r : Word := BitVec.ofInt 32 (a.toNat - b.toNat)
    ∃ t, exec i s = .next t ∧ RegistersSame s t ∧
      (t.flags.z = true ↔ r = 0) ∧ t.flags.n = r.getLsbD 31 ∧
      (t.flags.c = true ↔ a.toNat ≥ b.toNat) ∧
      (t.flags.v = true ↔ a.getLsbD 31 ≠ b.getLsbD 31 ∧ r.getLsbD 31 ≠ a.getLsbD 31) ∧
      Advanced i s t ∧ RestSame s t

/-- 40_alu.md R148, R149, R150, bit by bit. The forms are andImmA32, andRegA32, orrImmA32, orrRegA32, eorImmA32 and
eorRegA32. -/
def Obligations.LogicalOpsWriteBits : Prop :=
  ∀ (i : Instr) (s : State) (rd rn : Reg) (src2 : Src2),
    i.op = .and rd rn src2 ∨ i.op = .orr rd rn src2 ∨ i.op = .eor rd rn src2 →
    ∃ t, exec i s = .next t ∧
      (∀ k, k < 32 →
        let x := (s.reg rn).getLsbD k
        let y := (op2 src2 s).getLsbD k
        (i.op = .and rd rn src2 → (t.reg rd).getLsbD k = (x && y)) ∧
        (i.op = .orr rd rn src2 → (t.reg rd).getLsbD k = (x || y)) ∧
        (i.op = .eor rd rn src2 → (t.reg rd).getLsbD k = (x ^^ y))) ∧
      RegistersSameBut rd s t ∧ t.flags = s.flags ∧ Advanced i s t ∧ RestSame s t

/-! ### Loads and stores -/

/-- 41_load_store.md R170, R173: the load of an in-range word. The forms are ldrA32, ldrImm5T16 and ldrSpT16. -/
def Obligations.LdrLoadsLittleEndianWord : Prop :=
  ∀ (i : Instr) (s : State) (rd rn : Reg) (imm : Int), i.op = .ldr rd rn imm →
    (effectiveAddress rn imm s).toNat ≤ 0xFFFC →
    effectiveAddress rn imm s = BitVec.ofInt 32 ((s.reg rn).toNat + imm) ∧
    ∃ t, exec i s = .next t ∧ t.reg rd = littleEndian s.mem (effectiveAddress rn imm s).toNat ∧
      RegistersSameBut rd s t ∧ t.flags = s.flags ∧ Advanced i s t ∧ RestSame s t

/-- 41_load_store.md R170, R174: the store of an in-range word, on a memory in canonical form. Every address outside the four
stored bytes reads as before. The forms are strA32, strImm5T16 and strSpT16. -/
def Obligations.StrStoresLittleEndianWord : Prop :=
  ∀ (i : Instr) (s : State) (rd rn : Reg) (imm : Int), i.op = .str rd rn imm → s.mem.wf →
    (effectiveAddress rn imm s).toNat ≤ 0xFFFC →
    effectiveAddress rn imm s = BitVec.ofInt 32 ((s.reg rn).toNat + imm) ∧
    ∃ t, exec i s = .next t ∧
      (∀ k, k < 4 → t.mem.readByte ((effectiveAddress rn imm s).toNat + k) = (s.reg rd).extractLsb' (8 * k) 8) ∧
      (∀ a, a < (effectiveAddress rn imm s).toNat ∨ (effectiveAddress rn imm s).toNat + 4 ≤ a →
        t.mem.readByte a = s.mem.readByte a) ∧
      RegistersSame s t ∧ t.flags = s.flags ∧ Advanced i s t ∧ t.diagnostics = s.diagnostics ∧ RunSame s t

/-- 41_load_store.md R171, R172: an LDR or STR out of range halts the run with MEMORY_VIOLATION and changes nothing else; the
cycle that meets it does not count. -/
def Obligations.OutOfRangeAccessHalts : Prop :=
  ∀ (i : Instr) (s : State) (rn : Reg) (imm : Int), accesses i.op rn imm →
    (effectiveAddress rn imm s).toNat > 0xFFFC →
    (∃ t, exec i s = .next t ∧ t.runState = .halted ∧ t.haltReason = .memoryViolation ∧ RegistersSame s t ∧
      MemorySame s t ∧ t.flags = s.flags ∧ t.pc = s.pc ∧ t.cycles = s.cycles ∧ t.maxCycles = s.maxCycles ∧
      t.diagnostics = s.diagnostics ∧ t.records = s.records) ∧
    (s.runState = .running → s.cycles ≠ s.maxCycles → s.fetch = some i →
      ∃ t, step s = .next t ∧ t.runState = .halted ∧ t.haltReason = .memoryViolation ∧ t.cycles = s.cycles ∧
        t.pc = s.pc)

/-- 20_memory.md R62, R59: a load from the address of the last store gives the stored word, and storing the same word there
again leaves the same memory. -/
def Obligations.LoadAfterStoreGivesStoredWord : Prop :=
  ∀ (i j : Instr) (s t : State) (rd rn rd' rn' : Reg) (imm imm' : Int),
    s.mem.wf → i.op = .str rd rn imm → j.op = .ldr rd' rn' imm' → exec i s = .next t → t.runState = s.runState →
    s.runState = .running → effectiveAddress rn' imm' t = effectiveAddress rn imm s →
    (∃ u, exec j t = .next u ∧ u.reg rd' = s.reg rd) ∧
    (∃ u, exec i t = .next u ∧ u.mem = t.mem)

/-! ### Control transfer -/

/-- 42_branch.md R180. The forms are bA32 and bT16. -/
def Obligations.BranchAddsOffset : Prop :=
  ∀ (i : Instr) (s : State) (offset : Int), i.op = .b offset →
    ∃ t, exec i s = .next t ∧ t.pc = BitVec.ofInt 32 (s.pc.toNat + offset) ∧ RegistersSame s t ∧
      t.flags = s.flags ∧ RestSame s t

/-- 42_branch.md R181: the link is `pc + 4` for a record of either size, in the executor on records and in the form blA32. -/
def Obligations.BranchLinkWritesPcPlusFour : Prop :=
  (∀ (r : Record) (s : State) (offset : Int), r.op = .bl offset →
    ∃ t, execRecord r s = .next t ∧ t.reg 14 = BitVec.ofNat 32 (s.pc.toNat + 4) ∧
      t.pc = BitVec.ofInt 32 (s.pc.toNat + offset) ∧ RegistersSameBut 14 s t ∧ t.flags = s.flags ∧ RestSame s t) ∧
  (∀ (i : Instr) (s : State) (offset : Int), i.op = .bl offset →
    ∃ t, exec i s = .next t ∧ t.reg 14 = BitVec.ofNat 32 (s.pc.toNat + 4) ∧
      t.pc = BitVec.ofInt 32 (s.pc.toNat + offset) ∧ RegistersSameBut 14 s t ∧ t.flags = s.flags ∧ RestSame s t)

/-- 42_branch.md R182: the register's value whole. The forms are bxA32 and bxT16. -/
def Obligations.BranchExchangeTakesRegister : Prop :=
  ∀ (i : Instr) (s : State) (rm : Reg), i.op = .bx rm →
    ∃ t, exec i s = .next t ∧ t.pc = s.reg rm ∧ RegistersSame s t ∧ t.flags = s.flags ∧ RestSame s t

/-- 42_branch.md R183: an UNKNOWN record is reported and passed. The form is unknown, of either size. -/
def Obligations.UnknownReportsAndAdvances : Prop :=
  ∀ (i : Instr) (s : State), i.op = .unknown →
    ∃ t, exec i s = .next t ∧ t.diagnostics = s.diagnostics ++ [{ pc := s.pc, raw := i.record.raw }] ∧
      Advanced i s t ∧ RegistersSame s t ∧ t.flags = s.flags ∧ MemorySame s t ∧ RunSame s t

/-! ### The sequencer -/

/-- A step runs the fetched instruction (43_sequencer.md R192 steps 3 and 4): step is exec with one cycle counted, or exec
alone where it halted the run. A table word placed by `withFetchWord` is what the next step runs; `withFetchWord` is the model's
(log entry 3). -/
def Obligations.StepRunsFetchedInstruction : Prop :=
  (∀ (s t : State) (i : Instr), s.runState = .running → s.cycles ≠ s.maxCycles → s.fetch = some i →
    exec i s = .next t →
    (t.runState = .running → step s = .next { t with cycles := t.cycles + 1 }) ∧
    (t.runState = .halted → step s = .next t)) ∧
  (∀ (s : State) (nbits w : Nat) (i : Instr), decodeTableWord nbits w = some i →
    (s.withFetchWord nbits w).fetch = some i ∧
    step (s.withFetchWord nbits w) = completeCycle (exec i (s.withFetchWord nbits w)))

/-- On a decoded image, a step runs what the bytes at the pc decode to: the word there in the A32 region, the halfword
there in the T16 region, and no record at any other pc (43_sequencer.md R191, R199; 30_encoding.md R72 to R74). -/
def Obligations.StepRunsBytesAtPc : Prop :=
  ∀ (buf : List Byte) (a32Bytes : Nat) (s : State), decodeImage buf a32Bytes = .ok s.records →
    s.runState = .running → s.cycles ≠ s.maxCycles →
    let p := s.pc.toNat
    (p < a32Bytes → p % 4 = 0 → step s = completeCycle (exec (decode32 (wordAt buf p)) s)) ∧
    (a32Bytes ≤ p → p < buf.length → (p - a32Bytes) % 2 = 0 →
      step s = completeCycle (exec (decode16 (halfAt buf p)) s)) ∧
    ((p < a32Bytes ∧ p % 4 ≠ 0) ∨ (a32Bytes ≤ p ∧ p < buf.length ∧ (p - a32Bytes) % 2 ≠ 0) ∨ buf.length ≤ p →
      step s = .next { s with runState := .halted, haltReason := .outOfBounds })

/-- 43_sequencer.md R193, R214 and R192 steps 1 and 2: the budget is checked before the fetch, and each of the two ends the run
with its own reason and changes nothing else. -/
def Obligations.BudgetThenFetchEndRun : Prop :=
  ∀ s : State, s.runState = .running →
    (s.cycles = s.maxCycles → step s = .next { s with runState := .halted, haltReason := .boundReached }) ∧
    (s.cycles ≠ s.maxCycles → (∀ k, k < s.records.length → offsetOf s.records k ≠ s.pc.toNat) →
      step s = .next { s with runState := .halted, haltReason := .outOfBounds })

/-- 43_sequencer.md R191: fetch finds record k iff its offset is the pc. -/
def Obligations.FetchFindsRecordAtOffset : Prop :=
  ∀ s : State,
    (∀ i, s.fetch = some i ↔
      ∃ k, k < s.records.length ∧ offsetOf s.records k = s.pc.toNat ∧ s.records[k]? = some i) ∧
    (∀ j k, j < s.records.length → k < s.records.length → offsetOf s.records j = offsetOf s.records k → j = k)

/-- 43_sequencer.md R197, which the spec derives from R74 and R191: on every decoded image the one-comparison fetch gives the
record that the scan of R191 gives, for every pc. -/
def Obligations.BoundaryFetchEqualsScan : Prop :=
  ∀ (buf : List Byte) (a32Bytes : Nat) (records : List Instr), decodeImage buf a32Bytes = .ok records →
    ∀ pc : Nat, boundaryFetch a32Bytes buf.length records pc = fetchFrom records 0 pc

/-- 43_sequencer.md R195: HALTED is terminal. That a step of a halted machine answers the same state is the model's form of it
(log entry 2). -/
def Obligations.HaltedIsTerminal : Prop :=
  ∀ (s : State) (k : Nat), s.runState = .halted → stepN k s = .next s

/-- No step faults or is refused: every machine state has a next state. It rests on the model's reading (log entry 2): that a
halt is a next state is DEDUCED from the halted state that the spec describes, and that a HALTED machine steps to itself,
where 43_sequencer.md R195 says no step happens, is a DESIGN CHOICE. With those, 60_exceptions.md R211 and R215 leave no
stop. -/
def Obligations.StepAlwaysAnswersNext : Prop := ∀ s : State, ∃ t, step s = .next t

/-- 43_sequencer.md R190 and 10_state.md R46: run entry resets the sequencer's status and takes the rest as given. -/
def Obligations.RunEntryResetsStatusOnly : Prop :=
  ∀ (s : State) (records : List Instr) (maxCycles : Nat),
    let t := s.enterRun records maxCycles
    t.runState = .running ∧ t.haltReason = .none ∧ t.cycles = 0 ∧ t.diagnostics = [] ∧ t.records = records ∧
    t.maxCycles = maxCycles ∧ RegistersSame s t ∧ t.flags = s.flags ∧ t.mem = s.mem ∧ t.pc = s.pc ∧
    t.runResult = { haltReason := .none, cycles := 0 }

/-- 70_reset_and_hazards.md R230, R233 and 10_state.md R45: the reset state. -/
def Obligations.ResetIsZeroed : Prop :=
  (∀ r, State.reset.reg r = 0) ∧ (∀ a, State.reset.mem.readByte a = 0) ∧
  State.reset.flags = { z := false, n := false, c := false, v := false } ∧ State.reset.pc = 0 ∧
  State.reset.runState = .running ∧ State.reset.haltReason = .none ∧ State.reset.cycles = 0 ∧
  State.reset.diagnostics = []

/-- 43_sequencer.md R196, which the spec derives from R192: every run ends, within its budget; BOUND_REACHED after exactly the
budget and every other reason before it; and a branch to itself ends only by the budget, with nothing else changed. That a
run is the budget and one step more, iterated, is the model's (log entry 15, DEDUCED), as is what a step of a HALTED machine
answers (log entry 2). -/
def Obligations.EveryRunEndsWithinBudget : Prop :=
  (∀ (records : List Instr) (s : State) (maxCycles : Nat),
    ∃ t, run records s maxCycles = .next t ∧ t.runState = .halted ∧
      ((t.haltReason = .boundReached ∧ t.cycles = maxCycles) ∨
       (t.haltReason = .outOfBounds ∧ t.cycles < maxCycles) ∨
       (t.haltReason = .memoryViolation ∧ t.cycles < maxCycles))) ∧
  (∀ (i : Instr) (s : State) (maxCycles : Nat), i.op = .b 0 → s.pc = 0 →
    run [i] s maxCycles =
      .next { s.enterRun [i] maxCycles with
        runState := .halted, haltReason := .boundReached, cycles := maxCycles })

/-- The invariant is kept by every step, from every state that meets it. It says that the memory is in canonical form, that
the status agrees with the counter and the budget (10_state.md R39, R40; R196), that the store is one a decoder can produce,
and that there are no more reports than cycles (R41). The step of a HALTED machine is the model's (log entry 2). -/
def Obligations.StepKeepsInvariant : Prop := ∀ s t : State, s.Inv → step s = .next t → t.Inv

/-- The invariant holds at reset. -/
def Obligations.ResetMeetsInvariant : Prop := State.reset.Inv

/-- The invariant holds at the start of every run on a decoded image, whatever state the host supplies with a memory in
canonical form (10_state.md R46; 70_reset_and_hazards.md R234). -/
def Obligations.LoadEstablishesInvariant : Prop :=
  ∀ (s t : State) (buf : List Byte) (a32Bytes maxCycles : Nat), s.mem.wf →
    s.load buf a32Bytes maxCycles = .next t → t.Inv

/-- 10_state.md R40: a running step counts one cycle iff the run goes on, and the counter and the halt reason never change
again once HALTED. That a HALTED machine has a step, to itself, is the model's (log entry 2). -/
def Obligations.CycleCountedIffRunGoesOn : Prop :=
  ∀ s t : State, step s = .next t →
    (s.runState = .running →
      (t.runState = .running ∧ t.cycles = s.cycles + 1) ∨ (t.runState = .halted ∧ t.cycles = s.cycles)) ∧
    (s.runState = .halted → t.cycles = s.cycles ∧ t.haltReason = s.haltReason ∧ t.runState = .halted) ∧
    t.maxCycles = s.maxCycles

/-- 10_state.md R41: a step keeps the reports or appends one, and it appends one iff it executed an UNKNOWN record.
The step of a HALTED machine, which executes none, is the model's (log entry 2). -/
def Obligations.DiagnosticsAppendOnly : Prop :=
  ∀ s t : State, step s = .next t →
    (t.diagnostics = s.diagnostics ∧ ¬ (∃ u, s.issue = .run (.unknown u))) ∨
    (∃ u, s.issue = .run (.unknown u) ∧ t.diagnostics = s.diagnostics ++ [{ pc := s.pc, raw := u.raw }])

/-! ### Rules over all instructions -/

/-- 10_state.md R35: only ADDS, SUBS, MOVS and CMP write flags, and MOVS leaves C and V. -/
def Obligations.OnlyFlagSettersWriteFlags : Prop :=
  ∀ (i : Instr) (s t : State), exec i s = .next t →
    (¬ setsFlags i.op → t.flags = s.flags) ∧
    (∀ rd src2, i.op = .movs rd src2 → t.flags.c = s.flags.c ∧ t.flags.v = s.flags.v)

/-- 10_state.md R25, R22: no register changes but the one the table names as written; BL alone writes a register it does not
name. -/
def Obligations.OnlyNamedRegisterWritten : Prop :=
  ∀ (i : Instr) (s t : State), exec i s = .next t → ∀ r, writePort i.op ≠ some r → t.reg r = s.reg r

/-- 10_state.md R26 and R25: what a record does depends on the registers only through its two read ports. Two states that agree
on all but the registers, and on the registers of ports A and B, get the same pc, flags, memory, status and reports, and
the same value in the written register where the record did not halt the run. -/
def Obligations.EffectDependsOnlyOnReadPorts : Prop :=
  ∀ (i : Instr) (s s' t : State),
    s'.flags = s.flags → s'.mem = s.mem → s'.pc = s.pc → s'.diagnostics = s.diagnostics → RunSame s s' →
    (∀ r, readPortA i.op = some r ∨ readPortB i.op = some r → s'.reg r = s.reg r) →
    exec i s = .next t →
    ∃ t', exec i s' = .next t' ∧ t'.flags = t.flags ∧ t'.mem = t.mem ∧ t'.pc = t.pc ∧
      t'.diagnostics = t.diagnostics ∧ RunSame t t' ∧
      (t.runState = .running → ∀ r, writePort i.op = some r → t'.reg r = t.reg r)

/-- 10_state.md R36 and 40_alu.md R157: no record reads a flag. Whatever the flags are, every other part of the next state is
the same. -/
def Obligations.FlagsNeverInfluence : Prop :=
  ∀ (i : Instr) (s t : State) (f : Flags), exec i s = .next t →
    ∃ t', exec i (s.setFlags f) = .next t' ∧ t'.setFlags t.flags = t

/-- 20_memory.md R51, R65 and 10_state.md R43: only STR changes memory, and no step changes the instruction store. -/
def Obligations.OnlyStrChangesMemory : Prop :=
  (∀ (i : Instr) (s t : State), exec i s = .next t → (∀ rd rn imm, i.op ≠ .str rd rn imm) → MemorySame s t) ∧
  (∀ s t : State, step s = .next t → t.records = s.records)

/-- 10_state.md R29, R30: every record completes, with the table's new pc, for every state and every operand, but for a load
or a store that is out of range. -/
def Obligations.EveryRecordCompletesWithNewPc : Prop :=
  ∀ (i : Instr) (s : State),
    (∀ rn imm, accesses i.op rn imm → (effectiveAddress rn imm s).toNat ≤ 0xFFFC) →
    ∃ t, exec i s = .next t ∧ t.pc = newPc i s ∧ t.runState = s.runState ∧ t.haltReason = s.haltReason

/-- 60_exceptions.md R211: nothing but an LDR or STR out of range raises a halt in execution. -/
def Obligations.OnlyLoadStoreHaltsInExecution : Prop :=
  ∀ (i : Instr) (s t : State), exec i s = .next t → s.runState = .running → t.runState = .halted →
    t.haltReason = .memoryViolation ∧ ∃ rn imm, accesses i.op rn imm ∧ (effectiveAddress rn imm s).toNat > 0xFFFC

/-- 43_sequencer.md R194: executing an instruction is applying the one rule of its record's op. -/
def Obligations.ExecAppliesRuleOfRecord : Prop := ∀ (i : Instr) (s : State), exec i s = execRecord i.record s

/-- 10_state.md R31: in a store of at most 2^31 bytes, a branch whose wrapped target is a record offset has an unwrapped target
that is the same offset, and so has the pc past a record. -/
def Obligations.WrappedTargetIsExactTarget : Prop :=
  ∀ (s t : State) (i : Instr) (offset : Int), s.storeOk → s.fetch = some i →
    ((i.op = .b offset ∨ i.op = .bl offset → exec i s = .next t → t.fetch ≠ none →
      (t.pc.toNat : Int) = s.pc.toNat + offset) ∧
     s.pc.toNat + i.size.bytes < 2 ^ 32)
end

