-- ==== Sys2Proof/Laws/Encoding.lean ====
section
/-! SUPPORT. Laws of the encoding tables: placed fields, masks, and rows that exclude each other. -/

namespace Sys2Proof

theorem getLsbD_place {n w : Nat} (f : BitVec n) (lo i : Nat) :
    (place w f lo).getLsbD i = (decide (i < w) && decide (lo ≤ i) && f.getLsbD (i - lo)) := by
  simp only [place, BitVec.getLsbD_shiftLeft, BitVec.getLsbD_setWidth]
  by_cases hi : i < w
  · by_cases hlo : lo ≤ i
    · simp [hi, hlo, show ¬ i < lo by omega, show i - lo < w by omega]
    · simp [hi, hlo]
  · simp [hi]

/-- A field under a mask that is clear there. -/
theorem place_and {n w : Nat} (f : BitVec n) (lo : Nat) (m : BitVec w) (h : m.extractLsb' lo n = 0) :
    place w f lo &&& m = 0 := by
  apply BitVec.eq_of_getLsbD_eq
  intro i _
  rw [BitVec.getLsbD_and, getLsbD_place]
  by_cases hlo : lo ≤ i
  · by_cases hn : i - lo < n
    · have hm := congrArg (fun x => x.getLsbD (i - lo)) h
      simp [hn, show lo + (i - lo) = i by omega] at hm
      simp [hm]
    · simp [BitVec.getLsbD_of_ge f (i - lo) (by omega)]
  · simp [hlo]

/-- The field at its own place. -/
theorem extract_place_self {n w : Nat} (f : BitVec n) (lo : Nat) (h : lo + n ≤ w) :
    (place w f lo).extractLsb' lo n = f := by
  apply BitVec.eq_of_getLsbD_eq
  intro i hi
  rw [BitVec.getLsbD_extractLsb', getLsbD_place]
  simp [hi, show lo + i < w by omega]

/-- A field read at a place apart from its own. -/
theorem extract_place_other {n w : Nat} (f : BitVec n) (lo lo' n' : Nat) (h : lo' + n' ≤ lo ∨ lo + n ≤ lo') :
    (place w f lo).extractLsb' lo' n' = 0 := by
  apply BitVec.eq_of_getLsbD_eq
  intro i hi
  rw [BitVec.getLsbD_extractLsb', getLsbD_place]
  rcases h with h | h
  · simp [show ¬ lo ≤ lo' + i by omega]
  · simp [BitVec.getLsbD_of_ge f (lo' + i - lo) (by omega)]

theorem or_and_right {w : Nat} (a b m : BitVec w) : (a ||| b) &&& m = a &&& m ||| b &&& m := by
  apply BitVec.eq_of_getLsbD_eq
  intro i _
  simp [Bool.and_or_distrib_right]

/-- The two halves of a 4-bit register field (30_encoding.md R111). -/
theorem split4 (f : BitVec 4) : f.extractLsb' 3 1 ++ f.extractLsb' 0 3 = f := by
  revert f; decide

theorem join4_high (a : BitVec 1) (b : BitVec 3) : (a ++ b).extractLsb' 3 1 = a := by
  revert a b; decide

theorem join4_low (a : BitVec 1) (b : BitVec 3) : (a ++ b).extractLsb' 0 3 = b := by
  revert a b; decide

theorem Row.fits_of {n : Nat} {r : Row n} {u : BitVec n} (h : u &&& r.mask = r.pattern) : r.fits u = true := by
  simp [Row.fits, h]

/-- Two rows whose matches differ under both masks share no unit (R76). -/
theorem Row.fits_apart {n : Nat} {p q : Row n} {u : BitVec n} (hp : p.fits u = true)
    (h : (p.pattern ^^^ q.pattern) &&& p.mask &&& q.mask ≠ 0) : q.fits u = false := by
  rw [Bool.eq_false_iff]
  intro hq
  simp only [Row.fits, beq_iff_eq] at hp hq
  apply h
  rw [← hp, ← hq]
  apply BitVec.eq_of_getLsbD_eq
  intro i _
  simp only [BitVec.getLsbD_and, BitVec.getLsbD_xor]
  cases u.getLsbD i <;> cases p.mask.getLsbD i <;> cases q.mask.getLsbD i <;> simp

/-- The bytes of an assembled word (20_memory.md R52). -/
theorem wordByte_wordOfBytes (b0 b1 b2 b3 : Byte) :
    wordByte (wordOfBytes b0 b1 b2 b3) 0 = b0 ∧ wordByte (wordOfBytes b0 b1 b2 b3) 1 = b1 ∧
    wordByte (wordOfBytes b0 b1 b2 b3) 2 = b2 ∧ wordByte (wordOfBytes b0 b1 b2 b3) 3 = b3 := by
  simp (disch := decide) [wordByte, wordOfBytes, BitVec.extractLsb'_or, extract_place_self, extract_place_other]

/-- A field cut from a word and put back at its place: the bits of the word there. -/
theorem getLsbD_place_extract {w : Nat} (u : BitVec w) (lo n i : Nat) :
    (place w (u.extractLsb' lo n) lo).getLsbD i = (decide (lo ≤ i) && decide (i < lo + n) && u.getLsbD i) := by
  rw [getLsbD_place, BitVec.getLsbD_extractLsb']
  by_cases hlo : lo ≤ i
  · by_cases hi : i < w
    · by_cases hn : i < lo + n
      · simp [hlo, hi, hn, show i - lo < n by omega, show lo + (i - lo) = i by omega]
      · simp [hn, show ¬ i - lo < n by omega]
    · simp [hi, BitVec.getLsbD_of_ge u i (by omega)]
  · simp [hlo]

/-- A word assembled from its own bytes (R52). -/
theorem wordOfBytes_wordByte (w : Word) :
    wordOfBytes (wordByte w 0) (wordByte w 1) (wordByte w 2) (wordByte w 3) = w := by
  apply BitVec.eq_of_getLsbD_eq
  intro i hi
  simp only [wordByte, wordOfBytes, BitVec.getLsbD_or, getLsbD_place_extract, Nat.reduceMul]
  cases h : w.getLsbD i
  · simp
  · simp only [Bool.and_true, Bool.or_eq_true, Bool.and_eq_true, decide_eq_true_eq]
    omega

/-- A halfword assembled from its own bytes (R53). -/
theorem halfOfBytes_bytes (h : Half) : halfOfBytes (h.extractLsb' 0 8) (h.extractLsb' 8 8) = h := by
  apply BitVec.eq_of_getLsbD_eq
  intro i hi
  simp only [halfOfBytes, BitVec.getLsbD_or, getLsbD_place_extract]
  cases h.getLsbD i
  · simp
  · simp only [Bool.and_true, Bool.or_eq_true, Bool.and_eq_true, decide_eq_true_eq]
    omega

end Sys2Proof
end

