-- ==== Sys2Proof/Laws/Decode.lean ====
section
/-! SUPPORT. Spec lemmas of the unit decoders: a unit that fits a row decodes to that row's instruction, a unit that
fits none is UNKNOWN, and a case rule that covers every decoding once. Later proofs cite these and do not unfold
the decoders. -/

namespace Sys2Proof

/-- Rows that differ under both masks, as the decoders need it. -/
theorem Row.not_fits {n : Nat} {p q : Row n} {u : BitVec n} (hp : p.fits u = true)
    (h : (p.pattern ^^^ q.pattern) &&& p.mask &&& q.mask ≠ 0) : ¬ q.fits u = true := by
  simp [Row.fits_apart hp h]

/-! ### decode32 -/

theorem decode32_andImmA32 {w : Word} (hf : rowAndImmA32.fits w = true) :
    decode32 w = .andImmA32 (w.extractLsb' 12 4) (w.extractLsb' 16 4) (w.extractLsb' 8 4) (w.extractLsb' 0 8) := by
  unfold decode32
  rw [if_pos hf]

theorem decode32_andRegA32 {w : Word} (hf : rowAndRegA32.fits w = true) :
    decode32 w = .andRegA32 (w.extractLsb' 12 4) (w.extractLsb' 16 4) (w.extractLsb' 0 4) := by
  unfold decode32
  iterate 1 rw [if_neg (Row.not_fits hf (by decide))]
  rw [if_pos hf]

theorem decode32_eorImmA32 {w : Word} (hf : rowEorImmA32.fits w = true) :
    decode32 w = .eorImmA32 (w.extractLsb' 12 4) (w.extractLsb' 16 4) (w.extractLsb' 8 4) (w.extractLsb' 0 8) := by
  unfold decode32
  iterate 2 rw [if_neg (Row.not_fits hf (by decide))]
  rw [if_pos hf]

theorem decode32_eorRegA32 {w : Word} (hf : rowEorRegA32.fits w = true) :
    decode32 w = .eorRegA32 (w.extractLsb' 12 4) (w.extractLsb' 16 4) (w.extractLsb' 0 4) := by
  unfold decode32
  iterate 3 rw [if_neg (Row.not_fits hf (by decide))]
  rw [if_pos hf]

theorem decode32_subImmA32 {w : Word} (hf : rowSubImmA32.fits w = true) :
    decode32 w = .subImmA32 (w.extractLsb' 12 4) (w.extractLsb' 16 4) (w.extractLsb' 8 4) (w.extractLsb' 0 8) := by
  unfold decode32
  iterate 4 rw [if_neg (Row.not_fits hf (by decide))]
  rw [if_pos hf]

theorem decode32_subRegA32 {w : Word} (hf : rowSubRegA32.fits w = true) :
    decode32 w = .subRegA32 (w.extractLsb' 12 4) (w.extractLsb' 16 4) (w.extractLsb' 0 4) := by
  unfold decode32
  iterate 5 rw [if_neg (Row.not_fits hf (by decide))]
  rw [if_pos hf]

theorem decode32_subsImmA32 {w : Word} (hf : rowSubsImmA32.fits w = true) :
    decode32 w = .subsImmA32 (w.extractLsb' 12 4) (w.extractLsb' 16 4) (w.extractLsb' 8 4) (w.extractLsb' 0 8) := by
  unfold decode32
  iterate 6 rw [if_neg (Row.not_fits hf (by decide))]
  rw [if_pos hf]

theorem decode32_subsRegA32 {w : Word} (hf : rowSubsRegA32.fits w = true) :
    decode32 w = .subsRegA32 (w.extractLsb' 12 4) (w.extractLsb' 16 4) (w.extractLsb' 0 4) := by
  unfold decode32
  iterate 7 rw [if_neg (Row.not_fits hf (by decide))]
  rw [if_pos hf]

theorem decode32_addImmA32 {w : Word} (hf : rowAddImmA32.fits w = true) :
    decode32 w = .addImmA32 (w.extractLsb' 12 4) (w.extractLsb' 16 4) (w.extractLsb' 8 4) (w.extractLsb' 0 8) := by
  unfold decode32
  iterate 8 rw [if_neg (Row.not_fits hf (by decide))]
  rw [if_pos hf]

theorem decode32_addRegA32 {w : Word} (hf : rowAddRegA32.fits w = true) :
    decode32 w = .addRegA32 (w.extractLsb' 12 4) (w.extractLsb' 16 4) (w.extractLsb' 0 4) := by
  unfold decode32
  iterate 9 rw [if_neg (Row.not_fits hf (by decide))]
  rw [if_pos hf]

theorem decode32_addsImmA32 {w : Word} (hf : rowAddsImmA32.fits w = true) :
    decode32 w = .addsImmA32 (w.extractLsb' 12 4) (w.extractLsb' 16 4) (w.extractLsb' 8 4) (w.extractLsb' 0 8) := by
  unfold decode32
  iterate 10 rw [if_neg (Row.not_fits hf (by decide))]
  rw [if_pos hf]

theorem decode32_addsRegA32 {w : Word} (hf : rowAddsRegA32.fits w = true) :
    decode32 w = .addsRegA32 (w.extractLsb' 12 4) (w.extractLsb' 16 4) (w.extractLsb' 0 4) := by
  unfold decode32
  iterate 11 rw [if_neg (Row.not_fits hf (by decide))]
  rw [if_pos hf]

theorem decode32_orrImmA32 {w : Word} (hf : rowOrrImmA32.fits w = true) :
    decode32 w = .orrImmA32 (w.extractLsb' 12 4) (w.extractLsb' 16 4) (w.extractLsb' 8 4) (w.extractLsb' 0 8) := by
  unfold decode32
  iterate 12 rw [if_neg (Row.not_fits hf (by decide))]
  rw [if_pos hf]

theorem decode32_orrRegA32 {w : Word} (hf : rowOrrRegA32.fits w = true) :
    decode32 w = .orrRegA32 (w.extractLsb' 12 4) (w.extractLsb' 16 4) (w.extractLsb' 0 4) := by
  unfold decode32
  iterate 13 rw [if_neg (Row.not_fits hf (by decide))]
  rw [if_pos hf]

theorem decode32_movImmA32 {w : Word} (hf : rowMovImmA32.fits w = true) :
    decode32 w = .movImmA32 (w.extractLsb' 12 4) (w.extractLsb' 8 4) (w.extractLsb' 0 8) := by
  unfold decode32
  iterate 14 rw [if_neg (Row.not_fits hf (by decide))]
  rw [if_pos hf]

theorem decode32_movRegA32 {w : Word} (hf : rowMovRegA32.fits w = true) :
    decode32 w = .movRegA32 (w.extractLsb' 12 4) (w.extractLsb' 0 4) := by
  unfold decode32
  iterate 15 rw [if_neg (Row.not_fits hf (by decide))]
  rw [if_pos hf]

theorem decode32_movsImmA32 {w : Word} (hf : rowMovsImmA32.fits w = true) :
    decode32 w = .movsImmA32 (w.extractLsb' 12 4) (w.extractLsb' 8 4) (w.extractLsb' 0 8) := by
  unfold decode32
  iterate 16 rw [if_neg (Row.not_fits hf (by decide))]
  rw [if_pos hf]

theorem decode32_movsRegA32 {w : Word} (hf : rowMovsRegA32.fits w = true) :
    decode32 w = .movsRegA32 (w.extractLsb' 12 4) (w.extractLsb' 0 4) := by
  unfold decode32
  iterate 17 rw [if_neg (Row.not_fits hf (by decide))]
  rw [if_pos hf]

theorem decode32_cmpImmA32 {w : Word} (hf : rowCmpImmA32.fits w = true) :
    decode32 w = .cmpImmA32 (w.extractLsb' 16 4) (w.extractLsb' 8 4) (w.extractLsb' 0 8) := by
  unfold decode32
  iterate 18 rw [if_neg (Row.not_fits hf (by decide))]
  rw [if_pos hf]

theorem decode32_cmpRegA32 {w : Word} (hf : rowCmpRegA32.fits w = true) :
    decode32 w = .cmpRegA32 (w.extractLsb' 16 4) (w.extractLsb' 0 4) := by
  unfold decode32
  iterate 19 rw [if_neg (Row.not_fits hf (by decide))]
  rw [if_pos hf]

theorem decode32_ldrA32 {w : Word} (hf : rowLdrA32.fits w = true) :
    decode32 w = .ldrA32 (w.extractLsb' 23 1) (w.extractLsb' 12 4) (w.extractLsb' 16 4) (w.extractLsb' 0 12) := by
  unfold decode32
  iterate 20 rw [if_neg (Row.not_fits hf (by decide))]
  rw [if_pos hf]

theorem decode32_strA32 {w : Word} (hf : rowStrA32.fits w = true) :
    decode32 w = .strA32 (w.extractLsb' 23 1) (w.extractLsb' 12 4) (w.extractLsb' 16 4) (w.extractLsb' 0 12) := by
  unfold decode32
  iterate 21 rw [if_neg (Row.not_fits hf (by decide))]
  rw [if_pos hf]

theorem decode32_bA32 {w : Word} (hf : rowBA32.fits w = true) :
    decode32 w = .bA32 (w.extractLsb' 0 24) := by
  unfold decode32
  iterate 22 rw [if_neg (Row.not_fits hf (by decide))]
  rw [if_pos hf]

theorem decode32_blA32 {w : Word} (hf : rowBlA32.fits w = true) :
    decode32 w = .blA32 (w.extractLsb' 0 24) := by
  unfold decode32
  iterate 23 rw [if_neg (Row.not_fits hf (by decide))]
  rw [if_pos hf]

theorem decode32_bxA32 {w : Word} (hf : rowBxA32.fits w = true) :
    decode32 w = .bxA32 (w.extractLsb' 0 4) := by
  unfold decode32
  iterate 24 rw [if_neg (Row.not_fits hf (by decide))]
  rw [if_pos hf]

theorem decode32_unknown {w : Word} (hn : ∀ r ∈ rowsA32, r.fits w = false) :
    decode32 w = .unknown (.a32 w) := by
  simp only [rowsA32, List.cons_append, List.nil_append, List.forall_mem_cons] at hn
  simp [decode32, hn]

/-- Every decoding of `decode32`, once: the row that fits, or none. -/
theorem decode32_elim {P : Instr → Prop} (w : Word)
    (h0 : rowAndImmA32.fits w = true → P (.andImmA32 (w.extractLsb' 12 4) (w.extractLsb' 16 4) (w.extractLsb' 8 4) (w.extractLsb' 0 8)))
    (h1 : rowAndRegA32.fits w = true → P (.andRegA32 (w.extractLsb' 12 4) (w.extractLsb' 16 4) (w.extractLsb' 0 4)))
    (h2 : rowEorImmA32.fits w = true → P (.eorImmA32 (w.extractLsb' 12 4) (w.extractLsb' 16 4) (w.extractLsb' 8 4) (w.extractLsb' 0 8)))
    (h3 : rowEorRegA32.fits w = true → P (.eorRegA32 (w.extractLsb' 12 4) (w.extractLsb' 16 4) (w.extractLsb' 0 4)))
    (h4 : rowSubImmA32.fits w = true → P (.subImmA32 (w.extractLsb' 12 4) (w.extractLsb' 16 4) (w.extractLsb' 8 4) (w.extractLsb' 0 8)))
    (h5 : rowSubRegA32.fits w = true → P (.subRegA32 (w.extractLsb' 12 4) (w.extractLsb' 16 4) (w.extractLsb' 0 4)))
    (h6 : rowSubsImmA32.fits w = true → P (.subsImmA32 (w.extractLsb' 12 4) (w.extractLsb' 16 4) (w.extractLsb' 8 4) (w.extractLsb' 0 8)))
    (h7 : rowSubsRegA32.fits w = true → P (.subsRegA32 (w.extractLsb' 12 4) (w.extractLsb' 16 4) (w.extractLsb' 0 4)))
    (h8 : rowAddImmA32.fits w = true → P (.addImmA32 (w.extractLsb' 12 4) (w.extractLsb' 16 4) (w.extractLsb' 8 4) (w.extractLsb' 0 8)))
    (h9 : rowAddRegA32.fits w = true → P (.addRegA32 (w.extractLsb' 12 4) (w.extractLsb' 16 4) (w.extractLsb' 0 4)))
    (h10 : rowAddsImmA32.fits w = true → P (.addsImmA32 (w.extractLsb' 12 4) (w.extractLsb' 16 4) (w.extractLsb' 8 4) (w.extractLsb' 0 8)))
    (h11 : rowAddsRegA32.fits w = true → P (.addsRegA32 (w.extractLsb' 12 4) (w.extractLsb' 16 4) (w.extractLsb' 0 4)))
    (h12 : rowOrrImmA32.fits w = true → P (.orrImmA32 (w.extractLsb' 12 4) (w.extractLsb' 16 4) (w.extractLsb' 8 4) (w.extractLsb' 0 8)))
    (h13 : rowOrrRegA32.fits w = true → P (.orrRegA32 (w.extractLsb' 12 4) (w.extractLsb' 16 4) (w.extractLsb' 0 4)))
    (h14 : rowMovImmA32.fits w = true → P (.movImmA32 (w.extractLsb' 12 4) (w.extractLsb' 8 4) (w.extractLsb' 0 8)))
    (h15 : rowMovRegA32.fits w = true → P (.movRegA32 (w.extractLsb' 12 4) (w.extractLsb' 0 4)))
    (h16 : rowMovsImmA32.fits w = true → P (.movsImmA32 (w.extractLsb' 12 4) (w.extractLsb' 8 4) (w.extractLsb' 0 8)))
    (h17 : rowMovsRegA32.fits w = true → P (.movsRegA32 (w.extractLsb' 12 4) (w.extractLsb' 0 4)))
    (h18 : rowCmpImmA32.fits w = true → P (.cmpImmA32 (w.extractLsb' 16 4) (w.extractLsb' 8 4) (w.extractLsb' 0 8)))
    (h19 : rowCmpRegA32.fits w = true → P (.cmpRegA32 (w.extractLsb' 16 4) (w.extractLsb' 0 4)))
    (h20 : rowLdrA32.fits w = true → P (.ldrA32 (w.extractLsb' 23 1) (w.extractLsb' 12 4) (w.extractLsb' 16 4) (w.extractLsb' 0 12)))
    (h21 : rowStrA32.fits w = true → P (.strA32 (w.extractLsb' 23 1) (w.extractLsb' 12 4) (w.extractLsb' 16 4) (w.extractLsb' 0 12)))
    (h22 : rowBA32.fits w = true → P (.bA32 (w.extractLsb' 0 24)))
    (h23 : rowBlA32.fits w = true → P (.blA32 (w.extractLsb' 0 24)))
    (h24 : rowBxA32.fits w = true → P (.bxA32 (w.extractLsb' 0 4)))
    (hu : (∀ r ∈ rowsA32, r.fits w = false) → P (.unknown (.a32 w))) : P (decode32 w) := by
  by_cases f0 : rowAndImmA32.fits w = true
  · rw [decode32_andImmA32 f0]; exact h0 f0
  by_cases f1 : rowAndRegA32.fits w = true
  · rw [decode32_andRegA32 f1]; exact h1 f1
  by_cases f2 : rowEorImmA32.fits w = true
  · rw [decode32_eorImmA32 f2]; exact h2 f2
  by_cases f3 : rowEorRegA32.fits w = true
  · rw [decode32_eorRegA32 f3]; exact h3 f3
  by_cases f4 : rowSubImmA32.fits w = true
  · rw [decode32_subImmA32 f4]; exact h4 f4
  by_cases f5 : rowSubRegA32.fits w = true
  · rw [decode32_subRegA32 f5]; exact h5 f5
  by_cases f6 : rowSubsImmA32.fits w = true
  · rw [decode32_subsImmA32 f6]; exact h6 f6
  by_cases f7 : rowSubsRegA32.fits w = true
  · rw [decode32_subsRegA32 f7]; exact h7 f7
  by_cases f8 : rowAddImmA32.fits w = true
  · rw [decode32_addImmA32 f8]; exact h8 f8
  by_cases f9 : rowAddRegA32.fits w = true
  · rw [decode32_addRegA32 f9]; exact h9 f9
  by_cases f10 : rowAddsImmA32.fits w = true
  · rw [decode32_addsImmA32 f10]; exact h10 f10
  by_cases f11 : rowAddsRegA32.fits w = true
  · rw [decode32_addsRegA32 f11]; exact h11 f11
  by_cases f12 : rowOrrImmA32.fits w = true
  · rw [decode32_orrImmA32 f12]; exact h12 f12
  by_cases f13 : rowOrrRegA32.fits w = true
  · rw [decode32_orrRegA32 f13]; exact h13 f13
  by_cases f14 : rowMovImmA32.fits w = true
  · rw [decode32_movImmA32 f14]; exact h14 f14
  by_cases f15 : rowMovRegA32.fits w = true
  · rw [decode32_movRegA32 f15]; exact h15 f15
  by_cases f16 : rowMovsImmA32.fits w = true
  · rw [decode32_movsImmA32 f16]; exact h16 f16
  by_cases f17 : rowMovsRegA32.fits w = true
  · rw [decode32_movsRegA32 f17]; exact h17 f17
  by_cases f18 : rowCmpImmA32.fits w = true
  · rw [decode32_cmpImmA32 f18]; exact h18 f18
  by_cases f19 : rowCmpRegA32.fits w = true
  · rw [decode32_cmpRegA32 f19]; exact h19 f19
  by_cases f20 : rowLdrA32.fits w = true
  · rw [decode32_ldrA32 f20]; exact h20 f20
  by_cases f21 : rowStrA32.fits w = true
  · rw [decode32_strA32 f21]; exact h21 f21
  by_cases f22 : rowBA32.fits w = true
  · rw [decode32_bA32 f22]; exact h22 f22
  by_cases f23 : rowBlA32.fits w = true
  · rw [decode32_blA32 f23]; exact h23 f23
  by_cases f24 : rowBxA32.fits w = true
  · rw [decode32_bxA32 f24]; exact h24 f24
  have hn : ∀ r ∈ rowsA32, r.fits w = false := by
    simp only [rowsA32, List.cons_append, List.nil_append, List.forall_mem_cons, Bool.eq_false_iff]
    exact ⟨f0, f1, f2, f3, f4, f5, f6, f7, f8, f9, f10, f11, f12, f13, f14, f15, f16, f17, f18, f19, f20, f21, f22, f23, f24, by simp⟩
  rw [decode32_unknown hn]
  exact hu hn

/-- The size of a decoded unit is its region's (30_encoding.md R124). -/
theorem decode32_size (w : Word) : (decode32 w).size = .four := by
  apply decode32_elim (P := fun i => i.size = .four) w <;> intros <;> rfl

/-! ### decode16 -/

theorem decode16_movsImm8T16 {h : Half} (hf : rowMovsImm8T16.fits h = true) :
    decode16 h = .movsImm8T16 (h.extractLsb' 8 3) (h.extractLsb' 0 8) := by
  unfold decode16
  rw [if_pos hf]

theorem decode16_cmpImm8T16 {h : Half} (hf : rowCmpImm8T16.fits h = true) :
    decode16 h = .cmpImm8T16 (h.extractLsb' 8 3) (h.extractLsb' 0 8) := by
  unfold decode16
  iterate 1 rw [if_neg (Row.not_fits hf (by decide))]
  rw [if_pos hf]

theorem decode16_addsImm8T16 {h : Half} (hf : rowAddsImm8T16.fits h = true) :
    decode16 h = .addsImm8T16 (h.extractLsb' 8 3) (h.extractLsb' 0 8) := by
  unfold decode16
  iterate 2 rw [if_neg (Row.not_fits hf (by decide))]
  rw [if_pos hf]

theorem decode16_subsImm8T16 {h : Half} (hf : rowSubsImm8T16.fits h = true) :
    decode16 h = .subsImm8T16 (h.extractLsb' 8 3) (h.extractLsb' 0 8) := by
  unfold decode16
  iterate 3 rw [if_neg (Row.not_fits hf (by decide))]
  rw [if_pos hf]

theorem decode16_addsRegT16 {h : Half} (hf : rowAddsRegT16.fits h = true) :
    decode16 h = .addsRegT16 (h.extractLsb' 0 3) (h.extractLsb' 3 3) (h.extractLsb' 6 3) := by
  unfold decode16
  iterate 4 rw [if_neg (Row.not_fits hf (by decide))]
  rw [if_pos hf]

theorem decode16_subsRegT16 {h : Half} (hf : rowSubsRegT16.fits h = true) :
    decode16 h = .subsRegT16 (h.extractLsb' 0 3) (h.extractLsb' 3 3) (h.extractLsb' 6 3) := by
  unfold decode16
  iterate 5 rw [if_neg (Row.not_fits hf (by decide))]
  rw [if_pos hf]

theorem decode16_addsImm3T16 {h : Half} (hf : rowAddsImm3T16.fits h = true) :
    decode16 h = .addsImm3T16 (h.extractLsb' 0 3) (h.extractLsb' 3 3) (h.extractLsb' 6 3) := by
  unfold decode16
  iterate 6 rw [if_neg (Row.not_fits hf (by decide))]
  rw [if_pos hf]

theorem decode16_subsImm3T16 {h : Half} (hf : rowSubsImm3T16.fits h = true) :
    decode16 h = .subsImm3T16 (h.extractLsb' 0 3) (h.extractLsb' 3 3) (h.extractLsb' 6 3) := by
  unfold decode16
  iterate 7 rw [if_neg (Row.not_fits hf (by decide))]
  rw [if_pos hf]

theorem decode16_movsRegT16 {h : Half} (hf : rowMovsRegT16.fits h = true) :
    decode16 h = .movsRegT16 (h.extractLsb' 0 3) (h.extractLsb' 3 3) := by
  unfold decode16
  iterate 8 rw [if_neg (Row.not_fits hf (by decide))]
  rw [if_pos hf]

theorem decode16_cmpRegT16 {h : Half} (hf : rowCmpRegT16.fits h = true) :
    decode16 h = .cmpRegT16 (h.extractLsb' 0 3) (h.extractLsb' 3 3) := by
  unfold decode16
  iterate 9 rw [if_neg (Row.not_fits hf (by decide))]
  rw [if_pos hf]

theorem decode16_addRegT16 {h : Half} (hf : rowAddRegT16.fits h = true) :
    decode16 h = .addRegT16 (h.extractLsb' 7 1 ++ h.extractLsb' 0 3) (h.extractLsb' 3 4) := by
  unfold decode16
  iterate 10 rw [if_neg (Row.not_fits hf (by decide))]
  rw [if_pos hf]

theorem decode16_movRegT16 {h : Half} (hf : rowMovRegT16.fits h = true) :
    decode16 h = .movRegT16 (h.extractLsb' 7 1 ++ h.extractLsb' 0 3) (h.extractLsb' 3 4) := by
  unfold decode16
  iterate 11 rw [if_neg (Row.not_fits hf (by decide))]
  rw [if_pos hf]

theorem decode16_bxT16 {h : Half} (hf : rowBxT16.fits h = true) :
    decode16 h = .bxT16 (h.extractLsb' 3 4) := by
  unfold decode16
  iterate 12 rw [if_neg (Row.not_fits hf (by decide))]
  rw [if_pos hf]

theorem decode16_strImm5T16 {h : Half} (hf : rowStrImm5T16.fits h = true) :
    decode16 h = .strImm5T16 (h.extractLsb' 0 3) (h.extractLsb' 3 3) (h.extractLsb' 6 5) := by
  unfold decode16
  iterate 13 rw [if_neg (Row.not_fits hf (by decide))]
  rw [if_pos hf]

theorem decode16_ldrImm5T16 {h : Half} (hf : rowLdrImm5T16.fits h = true) :
    decode16 h = .ldrImm5T16 (h.extractLsb' 0 3) (h.extractLsb' 3 3) (h.extractLsb' 6 5) := by
  unfold decode16
  iterate 14 rw [if_neg (Row.not_fits hf (by decide))]
  rw [if_pos hf]

theorem decode16_strSpT16 {h : Half} (hf : rowStrSpT16.fits h = true) :
    decode16 h = .strSpT16 (h.extractLsb' 8 3) (h.extractLsb' 0 8) := by
  unfold decode16
  iterate 15 rw [if_neg (Row.not_fits hf (by decide))]
  rw [if_pos hf]

theorem decode16_ldrSpT16 {h : Half} (hf : rowLdrSpT16.fits h = true) :
    decode16 h = .ldrSpT16 (h.extractLsb' 8 3) (h.extractLsb' 0 8) := by
  unfold decode16
  iterate 16 rw [if_neg (Row.not_fits hf (by decide))]
  rw [if_pos hf]

theorem decode16_addRdSpT16 {h : Half} (hf : rowAddRdSpT16.fits h = true) :
    decode16 h = .addRdSpT16 (h.extractLsb' 8 3) (h.extractLsb' 0 8) := by
  unfold decode16
  iterate 17 rw [if_neg (Row.not_fits hf (by decide))]
  rw [if_pos hf]

theorem decode16_addSpSpT16 {h : Half} (hf : rowAddSpSpT16.fits h = true) :
    decode16 h = .addSpSpT16 (h.extractLsb' 0 7) := by
  unfold decode16
  iterate 18 rw [if_neg (Row.not_fits hf (by decide))]
  rw [if_pos hf]

theorem decode16_subSpSpT16 {h : Half} (hf : rowSubSpSpT16.fits h = true) :
    decode16 h = .subSpSpT16 (h.extractLsb' 0 7) := by
  unfold decode16
  iterate 19 rw [if_neg (Row.not_fits hf (by decide))]
  rw [if_pos hf]

theorem decode16_bT16 {h : Half} (hf : rowBT16.fits h = true) :
    decode16 h = .bT16 (h.extractLsb' 0 11) := by
  unfold decode16
  iterate 20 rw [if_neg (Row.not_fits hf (by decide))]
  rw [if_pos hf]

theorem decode16_unknown {h : Half} (hn : ∀ r ∈ rowsT16, r.fits h = false) :
    decode16 h = .unknown (.t16 h) := by
  simp only [rowsT16, List.cons_append, List.nil_append, List.forall_mem_cons] at hn
  simp [decode16, hn]

/-- Every decoding of `decode16`, once: the row that fits, or none. -/
theorem decode16_elim {P : Instr → Prop} (h : Half)
    (h0 : rowMovsImm8T16.fits h = true → P (.movsImm8T16 (h.extractLsb' 8 3) (h.extractLsb' 0 8)))
    (h1 : rowCmpImm8T16.fits h = true → P (.cmpImm8T16 (h.extractLsb' 8 3) (h.extractLsb' 0 8)))
    (h2 : rowAddsImm8T16.fits h = true → P (.addsImm8T16 (h.extractLsb' 8 3) (h.extractLsb' 0 8)))
    (h3 : rowSubsImm8T16.fits h = true → P (.subsImm8T16 (h.extractLsb' 8 3) (h.extractLsb' 0 8)))
    (h4 : rowAddsRegT16.fits h = true → P (.addsRegT16 (h.extractLsb' 0 3) (h.extractLsb' 3 3) (h.extractLsb' 6 3)))
    (h5 : rowSubsRegT16.fits h = true → P (.subsRegT16 (h.extractLsb' 0 3) (h.extractLsb' 3 3) (h.extractLsb' 6 3)))
    (h6 : rowAddsImm3T16.fits h = true → P (.addsImm3T16 (h.extractLsb' 0 3) (h.extractLsb' 3 3) (h.extractLsb' 6 3)))
    (h7 : rowSubsImm3T16.fits h = true → P (.subsImm3T16 (h.extractLsb' 0 3) (h.extractLsb' 3 3) (h.extractLsb' 6 3)))
    (h8 : rowMovsRegT16.fits h = true → P (.movsRegT16 (h.extractLsb' 0 3) (h.extractLsb' 3 3)))
    (h9 : rowCmpRegT16.fits h = true → P (.cmpRegT16 (h.extractLsb' 0 3) (h.extractLsb' 3 3)))
    (h10 : rowAddRegT16.fits h = true → P (.addRegT16 (h.extractLsb' 7 1 ++ h.extractLsb' 0 3) (h.extractLsb' 3 4)))
    (h11 : rowMovRegT16.fits h = true → P (.movRegT16 (h.extractLsb' 7 1 ++ h.extractLsb' 0 3) (h.extractLsb' 3 4)))
    (h12 : rowBxT16.fits h = true → P (.bxT16 (h.extractLsb' 3 4)))
    (h13 : rowStrImm5T16.fits h = true → P (.strImm5T16 (h.extractLsb' 0 3) (h.extractLsb' 3 3) (h.extractLsb' 6 5)))
    (h14 : rowLdrImm5T16.fits h = true → P (.ldrImm5T16 (h.extractLsb' 0 3) (h.extractLsb' 3 3) (h.extractLsb' 6 5)))
    (h15 : rowStrSpT16.fits h = true → P (.strSpT16 (h.extractLsb' 8 3) (h.extractLsb' 0 8)))
    (h16 : rowLdrSpT16.fits h = true → P (.ldrSpT16 (h.extractLsb' 8 3) (h.extractLsb' 0 8)))
    (h17 : rowAddRdSpT16.fits h = true → P (.addRdSpT16 (h.extractLsb' 8 3) (h.extractLsb' 0 8)))
    (h18 : rowAddSpSpT16.fits h = true → P (.addSpSpT16 (h.extractLsb' 0 7)))
    (h19 : rowSubSpSpT16.fits h = true → P (.subSpSpT16 (h.extractLsb' 0 7)))
    (h20 : rowBT16.fits h = true → P (.bT16 (h.extractLsb' 0 11)))
    (hu : (∀ r ∈ rowsT16, r.fits h = false) → P (.unknown (.t16 h))) : P (decode16 h) := by
  by_cases f0 : rowMovsImm8T16.fits h = true
  · rw [decode16_movsImm8T16 f0]; exact h0 f0
  by_cases f1 : rowCmpImm8T16.fits h = true
  · rw [decode16_cmpImm8T16 f1]; exact h1 f1
  by_cases f2 : rowAddsImm8T16.fits h = true
  · rw [decode16_addsImm8T16 f2]; exact h2 f2
  by_cases f3 : rowSubsImm8T16.fits h = true
  · rw [decode16_subsImm8T16 f3]; exact h3 f3
  by_cases f4 : rowAddsRegT16.fits h = true
  · rw [decode16_addsRegT16 f4]; exact h4 f4
  by_cases f5 : rowSubsRegT16.fits h = true
  · rw [decode16_subsRegT16 f5]; exact h5 f5
  by_cases f6 : rowAddsImm3T16.fits h = true
  · rw [decode16_addsImm3T16 f6]; exact h6 f6
  by_cases f7 : rowSubsImm3T16.fits h = true
  · rw [decode16_subsImm3T16 f7]; exact h7 f7
  by_cases f8 : rowMovsRegT16.fits h = true
  · rw [decode16_movsRegT16 f8]; exact h8 f8
  by_cases f9 : rowCmpRegT16.fits h = true
  · rw [decode16_cmpRegT16 f9]; exact h9 f9
  by_cases f10 : rowAddRegT16.fits h = true
  · rw [decode16_addRegT16 f10]; exact h10 f10
  by_cases f11 : rowMovRegT16.fits h = true
  · rw [decode16_movRegT16 f11]; exact h11 f11
  by_cases f12 : rowBxT16.fits h = true
  · rw [decode16_bxT16 f12]; exact h12 f12
  by_cases f13 : rowStrImm5T16.fits h = true
  · rw [decode16_strImm5T16 f13]; exact h13 f13
  by_cases f14 : rowLdrImm5T16.fits h = true
  · rw [decode16_ldrImm5T16 f14]; exact h14 f14
  by_cases f15 : rowStrSpT16.fits h = true
  · rw [decode16_strSpT16 f15]; exact h15 f15
  by_cases f16 : rowLdrSpT16.fits h = true
  · rw [decode16_ldrSpT16 f16]; exact h16 f16
  by_cases f17 : rowAddRdSpT16.fits h = true
  · rw [decode16_addRdSpT16 f17]; exact h17 f17
  by_cases f18 : rowAddSpSpT16.fits h = true
  · rw [decode16_addSpSpT16 f18]; exact h18 f18
  by_cases f19 : rowSubSpSpT16.fits h = true
  · rw [decode16_subSpSpT16 f19]; exact h19 f19
  by_cases f20 : rowBT16.fits h = true
  · rw [decode16_bT16 f20]; exact h20 f20
  have hn : ∀ r ∈ rowsT16, r.fits h = false := by
    simp only [rowsT16, List.cons_append, List.nil_append, List.forall_mem_cons, Bool.eq_false_iff]
    exact ⟨f0, f1, f2, f3, f4, f5, f6, f7, f8, f9, f10, f11, f12, f13, f14, f15, f16, f17, f18, f19, f20, by simp⟩
  rw [decode16_unknown hn]
  exact hu hn

/-- The size of a decoded unit is its region's (30_encoding.md R124). -/
theorem decode16_size (h : Half) : (decode16 h).size = .two := by
  apply decode16_elim (P := fun i => i.size = .two) h <;> intros <;> rfl

end Sys2Proof
end

