-- ==== Sys2Proof/Laws/Memory.lean ====
section
/-! SUPPORT. Laws of memory: reads after writes, the canonical form kept by every operation, and equal reads make
equal memories (20_memory.md R50, R52). -/

namespace Sys2Proof.Machine

/-- Every key of a memory list is above `a`. -/
abbrev Memory.above (m : Memory) (a : Nat) : Prop := ∀ cell ∈ m, a < cell.1

theorem Memory.readByte_of_above {m : Memory} {a b : Nat} (h : m.above a) (hb : b ≤ a) : m.readByte b = 0 := by
  induction m with
  | nil => rfl
  | cons c rest ih =>
    obtain ⟨k, x⟩ := c
    have hk : a < k := h (k, x) (by simp)
    simp only [Memory.readByte, show ¬ k = b by omega, if_false]
    exact ih fun cell hc => h cell (by simp [hc])

theorem Memory.above_writeByte {m : Memory} {k a : Nat} {v : Byte} (h : m.above k) (ha : k < a) :
    Memory.above (m.writeByte a v) k := by
  induction m with
  | nil => intro cell hc; simp only [Memory.writeByte] at hc; split at hc <;> simp_all
  | cons c rest ih =>
    obtain ⟨q, x⟩ := c
    have hq : k < q := h (q, x) (by simp)
    have hr : Memory.above rest k := fun cell hc => h cell (by simp [hc])
    intro cell hc
    simp only [Memory.writeByte] at hc
    split at hc
    · split at hc
      · exact h cell hc
      · rcases List.mem_cons.1 hc with rfl | hc
        · exact ha
        · exact h cell hc
    · split at hc
      · split at hc
        · exact hr cell hc
        · rcases List.mem_cons.1 hc with rfl | hc
          · exact ha
          · exact hr cell hc
      · rcases List.mem_cons.1 hc with rfl | hc
        · exact hq
        · exact ih hr cell hc

/-- A read after a write of one byte, on rising addresses. -/
theorem Memory.readByte_writeByte {m : Memory} (hm : m.Pairwise fun p q => p.1 < q.1) (a b : Nat) (v : Byte) :
    Memory.readByte (m.writeByte a v) b = if a = b then v else m.readByte b := by
  induction m with
  | nil =>
    simp only [Memory.writeByte]
    split
    · simp_all [Memory.readByte]
    · simp [Memory.readByte]
  | cons c rest ih =>
    obtain ⟨k, x⟩ := c
    have hr := (List.pairwise_cons.1 hm).2
    have hab : Memory.above rest k := (List.pairwise_cons.1 hm).1
    simp only [Memory.writeByte]
    split
    · rename_i hlt
      split
      · rename_i hv
        by_cases hb : a = b
        · subst hb
          simp [Memory.readByte, show ¬ k = a by omega, hv, Memory.readByte_of_above hab (by omega : a ≤ k)]
        · simp [hb]
      · simp [Memory.readByte]
    · split
      · rename_i heq
        subst heq
        split
        · rename_i hv
          by_cases hb : a = b
          · subst hb; simp [hv, Memory.readByte_of_above hab (Nat.le_refl a)]
          · simp [Memory.readByte, hb]
        · by_cases hb : a = b <;> simp [Memory.readByte, hb]
      · rename_i hlt hne
        simp only [Memory.readByte]
        by_cases hkb : k = b
        · simp [hkb, show ¬ a = b by omega]
        · simp [hkb, ih hr]

/-- A write of one byte keeps the canonical form. -/
theorem Memory.wf_writeByte {m : Memory} (hm : m.wf) {a : Nat} (ha : a < Config.memBytes) (v : Byte) :
    Memory.wf (m.writeByte a v) := by
  induction m with
  | nil =>
    simp only [Memory.writeByte]
    split
    · exact hm
    · rename_i hv
      exact ⟨by simp, by simpa [ha] using hv⟩
  | cons c rest ih =>
    obtain ⟨k, x⟩ := c
    obtain ⟨hp, hc⟩ := hm
    have hr : Memory.wf rest := ⟨(List.pairwise_cons.1 hp).2, fun cell h => hc cell (by simp [h])⟩
    have hab : Memory.above rest k := (List.pairwise_cons.1 hp).1
    simp only [Memory.writeByte]
    split
    · rename_i hlt
      split
      · exact ⟨hp, hc⟩
      · rename_i hv
        refine ⟨List.pairwise_cons.2 ⟨fun cell h => ?_, hp⟩, fun cell h => ?_⟩
        · rcases List.mem_cons.1 h with rfl | h
          · exact hlt
          · exact Nat.lt_trans hlt (hab cell h)
        · rcases List.mem_cons.1 h with rfl | h
          · exact ⟨ha, hv⟩
          · exact hc cell h
    · split
      · rename_i heq
        subst heq
        split
        · exact hr
        · rename_i hv
          refine ⟨List.pairwise_cons.2 ⟨hab, hr.1⟩, fun cell h => ?_⟩
          rcases List.mem_cons.1 h with rfl | h
          · exact ⟨ha, hv⟩
          · exact hr.2 cell h
      · have hw := ih hr
        refine ⟨List.pairwise_cons.2 ⟨Memory.above_writeByte hab (by omega), hw.1⟩, fun cell h => ?_⟩
        rcases List.mem_cons.1 h with rfl | h
        · exact hc (k, x) (by simp)
        · exact hw.2 cell h

/-- A word write at an in-range address keeps the canonical form. -/
theorem Memory.wf_writeWord {m : Memory} (hm : m.wf) {a : Nat} (ha : a ≤ Config.lastWordAddress) (v : Word) :
    Memory.wf (m.writeWord a v) := by
  have h : a + 3 < Config.memBytes := by simp only [Config.lastWordAddress, Config.memBytes] at *; omega
  exact Memory.wf_writeByte (Memory.wf_writeByte (Memory.wf_writeByte (Memory.wf_writeByte hm (by omega) _)
    (by omega) _) (by omega) _) h _

/-- The bytes after a word write: the word's own bytes inside, the old bytes outside (R52). -/
theorem Memory.readByte_writeWord {m : Memory} (hm : m.wf) {a : Nat} (ha : a ≤ Config.lastWordAddress) (v : Word)
    (b : Nat) :
    Memory.readByte (m.writeWord a v) b =
      if a ≤ b ∧ b < a + 4 then wordByte v (b - a) else m.readByte b := by
  have h : a + 3 < Config.memBytes := by simp only [Config.lastWordAddress, Config.memBytes] at *; omega
  have h0 := Memory.wf_writeByte hm (show a < Config.memBytes by omega) (wordByte v 0)
  have h1 := Memory.wf_writeByte h0 (show a + 1 < Config.memBytes by omega) (wordByte v 1)
  have h2 := Memory.wf_writeByte h1 (show a + 2 < Config.memBytes by omega) (wordByte v 2)
  simp only [Memory.writeWord]
  rw [Memory.readByte_writeByte h2.1, Memory.readByte_writeByte h1.1, Memory.readByte_writeByte h0.1,
    Memory.readByte_writeByte hm.1]
  by_cases hin : a ≤ b ∧ b < a + 4
  · rw [if_pos hin]
    obtain rfl | rfl | rfl | rfl : b = a ∨ b = a + 1 ∨ b = a + 2 ∨ b = a + 3 := by omega
    · simp
    · simp
    · simp
    · simp
  · rw [if_neg hin, if_neg (by omega), if_neg (by omega), if_neg (by omega), if_neg (by omega)]

/-- A word read back from where it was written. -/
theorem Memory.readWord_writeWord {m : Memory} (hm : m.wf) {a : Nat} (ha : a ≤ Config.lastWordAddress) (v : Word) :
    Memory.readWord (m.writeWord a v) a = v := by
  simp only [Memory.readWord, Memory.readByte_writeWord hm ha]
  rw [if_pos (by omega), if_pos (by omega), if_pos (by omega), if_pos (by omega)]
  simp only [Nat.sub_self, Nat.add_sub_cancel_left]
  exact wordOfBytes_wordByte v

/-- The first listed byte. -/
theorem Memory.readByte_cons_self (k : Nat) (x : Byte) (rest : Memory) : Memory.readByte ((k, x) :: rest) k = x := by
  simp [Memory.readByte]

/-- Memories in canonical form with equal reads are equal lists. -/
theorem Memory.ext_of_wf {m n : Memory} (hm : m.wf) (hn : n.wf) (h : ∀ a, m.readByte a = n.readByte a) : m = n := by
  induction m generalizing n with
  | nil =>
    cases n with
    | nil => rfl
    | cons d _ =>
      obtain ⟨k, x⟩ := d
      have hk := h k
      rw [Memory.readByte_cons_self] at hk
      exact absurd hk.symm (hn.2 (k, x) (by simp)).2
  | cons c rest ih =>
    obtain ⟨k, x⟩ := c
    have hx : x ≠ 0 := (hm.2 (k, x) (by simp)).2
    have hab : Memory.above rest k := (List.pairwise_cons.1 hm.1).1
    have hr : Memory.wf rest := ⟨(List.pairwise_cons.1 hm.1).2, fun cell hc => hm.2 cell (by simp [hc])⟩
    cases n with
    | nil =>
      have hk := h k
      rw [Memory.readByte_cons_self] at hk
      exact absurd hk hx
    | cons d rest' =>
      obtain ⟨q, y⟩ := d
      have hy : y ≠ 0 := (hn.2 (q, y) (by simp)).2
      have hab' : Memory.above rest' q := (List.pairwise_cons.1 hn.1).1
      have hr' : Memory.wf rest' := ⟨(List.pairwise_cons.1 hn.1).2, fun cell hc => hn.2 cell (by simp [hc])⟩
      have hkq : k = q := by
        rcases Nat.lt_trichotomy k q with hlt | heq | hgt
        · have hk := h k
          rw [Memory.readByte_cons_self] at hk
          simp only [Memory.readByte, show ¬ q = k by omega, if_false,
            Memory.readByte_of_above hab' (by omega : k ≤ q)] at hk
          exact absurd hk hx
        · exact heq
        · have hk := h q
          rw [Memory.readByte_cons_self] at hk
          simp only [Memory.readByte, show ¬ k = q by omega, if_false,
            Memory.readByte_of_above hab (by omega : q ≤ k)] at hk
          exact absurd hk.symm hy
      subst hkq
      have hxy : x = y := by simpa [Memory.readByte] using h k
      subst hxy
      rw [ih hr hr' fun a => ?_]
      by_cases ha : k = a
      · subst ha
        rw [Memory.readByte_of_above hab (Nat.le_refl k), Memory.readByte_of_above hab' (Nat.le_refl k)]
      · simpa [Memory.readByte, ha] using h a

/-- Reset's memory is in canonical form. -/
theorem Memory.wf_reset : State.reset.mem.wf := by decide

end Sys2Proof.Machine
end

