-- ==== Sys2Proof/Laws/State.lean ====
section
/-! SUPPORT. One lemma for each field of State and each update, so that no proof unfolds a record update. -/

namespace Sys2Proof.Machine

section
variable (s : State) (r : Reg) (v : Word)

@[simp] theorem State.regs_setReg : (s.setReg r v).regs = s.regs.set r v := rfl
@[simp] theorem State.flags_setReg : (s.setReg r v).flags = s.flags := rfl
@[simp] theorem State.mem_setReg : (s.setReg r v).mem = s.mem := rfl
@[simp] theorem State.pc_setReg : (s.setReg r v).pc = s.pc := rfl
@[simp] theorem State.runState_setReg : (s.setReg r v).runState = s.runState := rfl
@[simp] theorem State.haltReason_setReg : (s.setReg r v).haltReason = s.haltReason := rfl
@[simp] theorem State.cycles_setReg : (s.setReg r v).cycles = s.cycles := rfl
@[simp] theorem State.maxCycles_setReg : (s.setReg r v).maxCycles = s.maxCycles := rfl
@[simp] theorem State.diagnostics_setReg : (s.setReg r v).diagnostics = s.diagnostics := rfl
@[simp] theorem State.records_setReg : (s.setReg r v).records = s.records := rfl

end

section
variable (s : State) (f : Flags)

@[simp] theorem State.regs_setFlags : (s.setFlags f).regs = s.regs := rfl
@[simp] theorem State.flags_setFlags : (s.setFlags f).flags = f := rfl
@[simp] theorem State.mem_setFlags : (s.setFlags f).mem = s.mem := rfl
@[simp] theorem State.pc_setFlags : (s.setFlags f).pc = s.pc := rfl
@[simp] theorem State.runState_setFlags : (s.setFlags f).runState = s.runState := rfl
@[simp] theorem State.haltReason_setFlags : (s.setFlags f).haltReason = s.haltReason := rfl
@[simp] theorem State.cycles_setFlags : (s.setFlags f).cycles = s.cycles := rfl
@[simp] theorem State.maxCycles_setFlags : (s.setFlags f).maxCycles = s.maxCycles := rfl
@[simp] theorem State.diagnostics_setFlags : (s.setFlags f).diagnostics = s.diagnostics := rfl
@[simp] theorem State.records_setFlags : (s.setFlags f).records = s.records := rfl
@[simp] theorem State.reg_setFlags (q : Reg) : (s.setFlags f).reg q = s.reg q := rfl

end

section
variable (s : State) (ea v : Word)

@[simp] theorem State.regs_store32 : (s.store32 ea v).regs = s.regs := rfl
@[simp] theorem State.flags_store32 : (s.store32 ea v).flags = s.flags := rfl
@[simp] theorem State.mem_store32 : (s.store32 ea v).mem = s.mem.writeWord ea.toNat v := rfl
@[simp] theorem State.pc_store32 : (s.store32 ea v).pc = s.pc := rfl
@[simp] theorem State.runState_store32 : (s.store32 ea v).runState = s.runState := rfl
@[simp] theorem State.haltReason_store32 : (s.store32 ea v).haltReason = s.haltReason := rfl
@[simp] theorem State.cycles_store32 : (s.store32 ea v).cycles = s.cycles := rfl
@[simp] theorem State.maxCycles_store32 : (s.store32 ea v).maxCycles = s.maxCycles := rfl
@[simp] theorem State.diagnostics_store32 : (s.store32 ea v).diagnostics = s.diagnostics := rfl
@[simp] theorem State.records_store32 : (s.store32 ea v).records = s.records := rfl
@[simp] theorem State.reg_store32 (q : Reg) : (s.store32 ea v).reg q = s.reg q := rfl

end

section
variable (s : State) (z : Size)

@[simp] theorem State.regs_advance : (s.advance z).regs = s.regs := rfl
@[simp] theorem State.flags_advance : (s.advance z).flags = s.flags := rfl
@[simp] theorem State.mem_advance : (s.advance z).mem = s.mem := rfl
@[simp] theorem State.pc_advance : (s.advance z).pc = s.pc + BitVec.ofNat 32 z.bytes := rfl
@[simp] theorem State.runState_advance : (s.advance z).runState = s.runState := rfl
@[simp] theorem State.haltReason_advance : (s.advance z).haltReason = s.haltReason := rfl
@[simp] theorem State.cycles_advance : (s.advance z).cycles = s.cycles := rfl
@[simp] theorem State.maxCycles_advance : (s.advance z).maxCycles = s.maxCycles := rfl
@[simp] theorem State.diagnostics_advance : (s.advance z).diagnostics = s.diagnostics := rfl
@[simp] theorem State.records_advance : (s.advance z).records = s.records := rfl
@[simp] theorem State.reg_advance (q : Reg) : (s.advance z).reg q = s.reg q := rfl

end

section
variable (s : State) (t : Word)

@[simp] theorem State.regs_jump : (s.jump t).regs = s.regs := rfl
@[simp] theorem State.flags_jump : (s.jump t).flags = s.flags := rfl
@[simp] theorem State.mem_jump : (s.jump t).mem = s.mem := rfl
@[simp] theorem State.pc_jump : (s.jump t).pc = t := rfl
@[simp] theorem State.runState_jump : (s.jump t).runState = s.runState := rfl
@[simp] theorem State.haltReason_jump : (s.jump t).haltReason = s.haltReason := rfl
@[simp] theorem State.cycles_jump : (s.jump t).cycles = s.cycles := rfl
@[simp] theorem State.maxCycles_jump : (s.jump t).maxCycles = s.maxCycles := rfl
@[simp] theorem State.diagnostics_jump : (s.jump t).diagnostics = s.diagnostics := rfl
@[simp] theorem State.records_jump : (s.jump t).records = s.records := rfl
@[simp] theorem State.reg_jump (q : Reg) : (s.jump t).reg q = s.reg q := rfl

end

section
variable (s : State) (h : HaltReason)

@[simp] theorem State.regs_halt : (s.halt h).regs = s.regs := rfl
@[simp] theorem State.flags_halt : (s.halt h).flags = s.flags := rfl
@[simp] theorem State.mem_halt : (s.halt h).mem = s.mem := rfl
@[simp] theorem State.pc_halt : (s.halt h).pc = s.pc := rfl
@[simp] theorem State.runState_halt : (s.halt h).runState = .halted := rfl
@[simp] theorem State.haltReason_halt : (s.halt h).haltReason = h := rfl
@[simp] theorem State.cycles_halt : (s.halt h).cycles = s.cycles := rfl
@[simp] theorem State.maxCycles_halt : (s.halt h).maxCycles = s.maxCycles := rfl
@[simp] theorem State.diagnostics_halt : (s.halt h).diagnostics = s.diagnostics := rfl
@[simp] theorem State.records_halt : (s.halt h).records = s.records := rfl
@[simp] theorem State.reg_halt (q : Reg) : (s.halt h).reg q = s.reg q := rfl

end

section
variable (s : State) (raw : Word)

@[simp] theorem State.regs_report : (s.report raw).regs = s.regs := rfl
@[simp] theorem State.flags_report : (s.report raw).flags = s.flags := rfl
@[simp] theorem State.mem_report : (s.report raw).mem = s.mem := rfl
@[simp] theorem State.pc_report : (s.report raw).pc = s.pc := rfl
@[simp] theorem State.runState_report : (s.report raw).runState = s.runState := rfl
@[simp] theorem State.haltReason_report : (s.report raw).haltReason = s.haltReason := rfl
@[simp] theorem State.cycles_report : (s.report raw).cycles = s.cycles := rfl
@[simp] theorem State.maxCycles_report : (s.report raw).maxCycles = s.maxCycles := rfl
@[simp] theorem State.diagnostics_report : (s.report raw).diagnostics = s.diagnostics ++ [{ pc := s.pc, raw := raw }] := rfl
@[simp] theorem State.records_report : (s.report raw).records = s.records := rfl
@[simp] theorem State.reg_report (q : Reg) : (s.report raw).reg q = s.reg q := rfl

end

section
variable (s : State) (rs : List Instr) (m : Nat)

@[simp] theorem State.regs_enterRun : (s.enterRun rs m).regs = s.regs := rfl
@[simp] theorem State.flags_enterRun : (s.enterRun rs m).flags = s.flags := rfl
@[simp] theorem State.mem_enterRun : (s.enterRun rs m).mem = s.mem := rfl
@[simp] theorem State.pc_enterRun : (s.enterRun rs m).pc = s.pc := rfl
@[simp] theorem State.runState_enterRun : (s.enterRun rs m).runState = .running := rfl
@[simp] theorem State.haltReason_enterRun : (s.enterRun rs m).haltReason = .none := rfl
@[simp] theorem State.cycles_enterRun : (s.enterRun rs m).cycles = 0 := rfl
@[simp] theorem State.maxCycles_enterRun : (s.enterRun rs m).maxCycles = m := rfl
@[simp] theorem State.diagnostics_enterRun : (s.enterRun rs m).diagnostics = [] := rfl
@[simp] theorem State.records_enterRun : (s.enterRun rs m).records = rs := rfl
@[simp] theorem State.reg_enterRun (q : Reg) : (s.enterRun rs m).reg q = s.reg q := rfl

end

section
variable (s : State) (i : Instr)

@[simp] theorem State.regs_placeInstr : (s.placeInstr i).regs = s.regs := rfl
@[simp] theorem State.flags_placeInstr : (s.placeInstr i).flags = s.flags := rfl
@[simp] theorem State.mem_placeInstr : (s.placeInstr i).mem = s.mem := rfl
@[simp] theorem State.pc_placeInstr : (s.placeInstr i).pc = 0 := rfl
@[simp] theorem State.runState_placeInstr : (s.placeInstr i).runState = .running := rfl
@[simp] theorem State.haltReason_placeInstr : (s.placeInstr i).haltReason = .none := rfl
@[simp] theorem State.cycles_placeInstr : (s.placeInstr i).cycles = s.cycles := rfl
@[simp] theorem State.maxCycles_placeInstr : (s.placeInstr i).maxCycles = if s.cycles = s.maxCycles then s.cycles + 1 else s.maxCycles := rfl
@[simp] theorem State.diagnostics_placeInstr : (s.placeInstr i).diagnostics = s.diagnostics := rfl
@[simp] theorem State.records_placeInstr : (s.placeInstr i).records = [i] := rfl
@[simp] theorem State.reg_placeInstr (q : Reg) : (s.placeInstr i).reg q = s.reg q := rfl

end

/-- A register read after a register write. -/
@[simp] theorem State.reg_setReg (s : State) (r q : Reg) (v : Word) :
    (s.setReg r v).reg q = if r = q then v else s.reg q := by
  simp [State.reg, State.setReg, Vector.getElem_set, Fin.ext_iff]

theorem State.reg_setReg_same (s : State) (r : Reg) (v : Word) : (s.setReg r v).reg r = v := by simp

theorem State.reg_setReg_other (s : State) {r q : Reg} (v : Word) (h : q ≠ r) :
    (s.setReg r v).reg q = s.reg q := by simp [Ne.symm h]

/-- Every register is 0 at reset (10_state.md R45). -/
theorem State.reg_reset (r : Reg) : State.reset.reg r = 0 := by
  simp [State.reg, State.reset]

/-- Two states with the same registers, field by field. -/
theorem State.regs_ext {s t : State} (h : ∀ r, s.reg r = t.reg r) : s.regs = t.regs := by
  apply Vector.ext
  intro i hi
  exact h ⟨i, hi⟩

/-! ### Completion -/

theorem State.complete_running {s : State} (h : s.runState = .running) :
    s.complete = { s with cycles := s.cycles + 1 } := by simp [State.complete, h]

theorem State.complete_halted {s : State} (h : s.runState = .halted) : s.complete = s := by
  simp [State.complete, h]

@[simp] theorem State.regs_complete (s : State) : s.complete.regs = s.regs := by
  unfold State.complete; split <;> rfl

@[simp] theorem State.flags_complete (s : State) : s.complete.flags = s.flags := by
  unfold State.complete; split <;> rfl

@[simp] theorem State.mem_complete (s : State) : s.complete.mem = s.mem := by
  unfold State.complete; split <;> rfl

@[simp] theorem State.pc_complete (s : State) : s.complete.pc = s.pc := by
  unfold State.complete; split <;> rfl

@[simp] theorem State.runState_complete (s : State) : s.complete.runState = s.runState := by
  unfold State.complete; split <;> rfl

@[simp] theorem State.haltReason_complete (s : State) : s.complete.haltReason = s.haltReason := by
  unfold State.complete; split <;> rfl

@[simp] theorem State.maxCycles_complete (s : State) : s.complete.maxCycles = s.maxCycles := by
  unfold State.complete; split <;> rfl

@[simp] theorem State.diagnostics_complete (s : State) : s.complete.diagnostics = s.diagnostics := by
  unfold State.complete; split <;> rfl

@[simp] theorem State.records_complete (s : State) : s.complete.records = s.records := by
  unfold State.complete; split <;> rfl

@[simp] theorem State.reg_complete (s : State) (q : Reg) : s.complete.reg q = s.reg q := by
  unfold State.complete; split <;> rfl

theorem State.cycles_complete (s : State) :
    s.complete.cycles = if s.runState = .running then s.cycles + 1 else s.cycles := by
  cases h : s.runState <;> simp [State.complete, h]

end Sys2Proof.Machine
end

