-- ==== Sys2Proof/Laws/Ops.lean ====
section
/-! SUPPORT. One lemma for each shared operation, saying once all it can do. Later proofs cite these and do not
unfold the operation. -/

namespace Sys2Proof.Machine

theorem inRange_iff (ea : Word) : inRange ea = true ↔ ea.toNat ≤ Config.lastWordAddress := by
  simp [inRange]

/-- A flagless data-processing record (40_alu.md R141). -/
theorem dataProcess_next {f : AluFn} {z : Size} {rd : Reg} {a b : Word} {s t : State}
    (h : dataProcess f z rd a b s = .next t) : t = (s.setReg rd (alu f a b).result).advance z := by
  simpa [dataProcess] using h.symm

/-- A flag-setting data-processing record (R142). -/
theorem dataProcessFlags_next {f : AluFn} {z : Size} {rd : Reg} {a b : Word} {s t : State}
    (h : dataProcessFlags f z rd a b s = .next t) :
    t = ((s.setReg rd (alu f a b).result).setFlags (flagUnit (alu f a b) s.flags)).advance z := by
  simpa [dataProcessFlags] using h.symm

/-- CMP (R147). -/
theorem opCmp_next {z : Size} {rn : Reg} {src2 : Src2} {s t : State} (h : opCmp z rn src2 s = .next t) :
    t = (s.setFlags (flagUnit (alu .sub (s.reg rn) (op2 src2 s)) s.flags)).advance z := by
  simpa [opCmp] using h.symm

/-- LDR: a load in range, or the halt and nothing else (41_load_store.md R172, R173). -/
theorem opLdr_cases (z : Size) (rd rn : Reg) (imm : Int) (s : State) :
    (inRange (effectiveAddress rn imm s) = true ∧
      opLdr z rd rn imm s = .next ((s.setReg rd (s.load32 (effectiveAddress rn imm s))).advance z)) ∨
    (inRange (effectiveAddress rn imm s) = false ∧ opLdr z rd rn imm s = .next (s.halt .memoryViolation)) := by
  cases h : inRange (effectiveAddress rn imm s) <;> simp [opLdr, h]

/-- STR: a store in range, or the halt and nothing else (R172, R174). -/
theorem opStr_cases (z : Size) (rd rn : Reg) (imm : Int) (s : State) :
    (inRange (effectiveAddress rn imm s) = true ∧
      opStr z rd rn imm s = .next ((s.store32 (effectiveAddress rn imm s) (s.reg rd)).advance z)) ∨
    (inRange (effectiveAddress rn imm s) = false ∧ opStr z rd rn imm s = .next (s.halt .memoryViolation)) := by
  cases h : inRange (effectiveAddress rn imm s) <;> simp [opStr, h]

/-- B (42_branch.md R180). -/
theorem opB_next {offset : Int} {s t : State} (h : opB offset s = .next t) : t = s.jump (s.branchTarget offset) := by
  simpa [opB] using h.symm

/-- BL (R181). -/
theorem opBl_next {offset : Int} {s t : State} (h : opBl offset s = .next t) :
    t = (s.setReg Config.linkRegister (s.pc + Config.linkDistance)).jump (s.branchTarget offset) := by
  simpa [opBl] using h.symm

/-- BX (R182). -/
theorem opBx_next {rm : Reg} {s t : State} (h : opBx rm s = .next t) : t = s.jump (s.reg rm) := by
  simpa [opBx] using h.symm

/-- UNKNOWN (R183). -/
theorem opUnknown_next {z : Size} {raw : Word} {s t : State} (h : opUnknown z raw s = .next t) :
    t = (s.report raw).advance z := by
  simpa [opUnknown] using h.symm

/-! ### The flag unit -/

@[simp] theorem flagUnit_z (out : AluOut) (f : Flags) : (flagUnit out f).z = (out.result == 0) := rfl

@[simp] theorem flagUnit_n (out : AluOut) (f : Flags) : (flagUnit out f).n = out.result.msb := rfl

@[simp] theorem flagUnit_pass_c (a b : Word) (f : Flags) : (flagUnit (alu .pass a b) f).c = f.c := rfl

@[simp] theorem flagUnit_pass_v (a b : Word) (f : Flags) : (flagUnit (alu .pass a b) f).v = f.v := rfl

@[simp] theorem flagUnit_add_c (a b : Word) (f : Flags) : (flagUnit (alu .add a b) f).c = addCarry a b := rfl

@[simp] theorem flagUnit_add_v (a b : Word) (f : Flags) :
    (flagUnit (alu .add a b) f).v = addOverflow a b (a + b) := rfl

@[simp] theorem flagUnit_sub_c (a b : Word) (f : Flags) : (flagUnit (alu .sub a b) f).c = subCarry a b := rfl

@[simp] theorem flagUnit_sub_v (a b : Word) (f : Flags) :
    (flagUnit (alu .sub a b) f).v = subOverflow a b (a - b) := rfl

/-! ### The sequencer -/

/-- What a cycle does before it executes (43_sequencer.md R192, R193, R195). -/
theorem issue_cases (s : State) :
    (s.runState = .halted ∧ s.issue = .stay) ∨
    (s.runState = .running ∧ s.cycles = s.maxCycles ∧ s.issue = .halt .boundReached) ∨
    (s.runState = .running ∧ s.cycles ≠ s.maxCycles ∧ s.fetch = none ∧ s.issue = .halt .outOfBounds) ∨
    (∃ i, s.runState = .running ∧ s.cycles ≠ s.maxCycles ∧ s.fetch = some i ∧ s.issue = .run i) := by
  cases hr : s.runState with
  | halted => exact .inl ⟨rfl, by simp [State.issue, hr]⟩
  | running =>
    by_cases hc : s.cycles = s.maxCycles
    · exact .inr (.inl ⟨rfl, hc, by simp [State.issue, hr, hc]⟩)
    · cases hf : s.fetch with
      | none => exact .inr (.inr (.inl ⟨rfl, hc, rfl, by simp [State.issue, hr, hc, hf]⟩))
      | some i => exact .inr (.inr (.inr ⟨i, rfl, hc, rfl, by simp [State.issue, hr, hc, hf]⟩))

@[simp] theorem completeCycle_next (t : State) : completeCycle (.next t) = .next t.complete := rfl

/-- A completed outcome that is a next state comes from a next state. -/
theorem completeCycle_eq_next {r : Result} {t : State} (h : completeCycle r = .next t) :
    ∃ u, r = .next u ∧ t = u.complete := by
  cases r with
  | next u => exact ⟨u, rfl, by simpa using h.symm⟩
  | fault f => simp [completeCycle] at h
  | refused f => simp [completeCycle] at h

/-- A record that is fetched is one of the store. -/
theorem fetchFrom_mem {rs : List Instr} {off pc : Nat} {i : Instr} (h : fetchFrom rs off pc = some i) : i ∈ rs := by
  induction rs generalizing off with
  | nil => simp [fetchFrom] at h
  | cons j rest ih =>
    simp only [fetchFrom] at h
    split at h
    · simp_all
    · exact List.mem_cons_of_mem _ (ih h)

theorem size_bytes_pos (z : Size) : 0 < z.bytes := by cases z <;> decide

/-- No record starts before the scan's first offset. -/
theorem fetchFrom_none_of_lt {rs : List Instr} {off pc : Nat} (h : pc < off) : fetchFrom rs off pc = none := by
  induction rs generalizing off with
  | nil => rfl
  | cons j rest ih =>
    simp only [fetchFrom, show ¬ off = pc by omega, if_false]
    exact ih (by omega)

theorem bytesOf_cons (i : Instr) (rs : List Instr) : bytesOf (i :: rs) = i.size.bytes + bytesOf rs := by
  simp [bytesOf]

/-- A fetched record lies inside the store. -/
theorem fetchFrom_lt {rs : List Instr} {off pc : Nat} {i : Instr} (h : fetchFrom rs off pc = some i) :
    off ≤ pc ∧ pc < off + bytesOf rs := by
  induction rs generalizing off with
  | nil => simp [fetchFrom] at h
  | cons j rest ih =>
    have hj := size_bytes_pos j.size
    simp only [fetchFrom] at h
    rw [bytesOf_cons]
    split at h
    · omega
    · have := ih h
      omega

/-- Loading an image: run entry on the decoded records, or the decoder's error under its own name (30_encoding.md
R71). -/
theorem load_cases (s : State) (buf : List Byte) (a32Bytes maxCycles : Nat) :
    (∃ rs, decodeImage buf a32Bytes = .ok rs ∧ s.load buf a32Bytes maxCycles = .next (s.enterRun rs maxCycles)) ∨
    (decodeImage buf a32Bytes = .error .truncatedInput ∧ s.load buf a32Bytes maxCycles = .fault .truncatedInput) ∨
    (decodeImage buf a32Bytes = .error .imageTooLarge ∧ s.load buf a32Bytes maxCycles = .refused .imageTooLarge) := by
  unfold State.load
  cases h : decodeImage buf a32Bytes with
  | ok rs => exact .inl ⟨rs, rfl, rfl⟩
  | error e => cases e <;> simp

end Sys2Proof.Machine
end

