-- ==== Sys2Proof/Laws/PerInstr.lean ====
section
/-! SUPPORT. Families of statements with one lemma for each constructor of Instr.

`EncodeFitsRow`: the unit that the encoder writes fits the instruction's own row of the opcode table. -/

namespace Sys2Proof.Laws.EncodeFitsRow

def fits32 (r : Row 32) : CodeUnit → Bool
  | .a32 w => r.fits w
  | .t16 _ => false

def fits16 (r : Row 16) : CodeUnit → Bool
  | .a32 _ => false
  | .t16 h => r.fits h

/-- The instruction's encoding fits its row. The fallback row has mask 0, so its part says that the unit is kept
whole. -/
def Statement (i : Instr) : Prop :=
  match i with
  | .andImmA32 _ _ _ _ => fits32 rowAndImmA32 (encode i) = true
  | .andRegA32 _ _ _ => fits32 rowAndRegA32 (encode i) = true
  | .eorImmA32 _ _ _ _ => fits32 rowEorImmA32 (encode i) = true
  | .eorRegA32 _ _ _ => fits32 rowEorRegA32 (encode i) = true
  | .subImmA32 _ _ _ _ => fits32 rowSubImmA32 (encode i) = true
  | .subRegA32 _ _ _ => fits32 rowSubRegA32 (encode i) = true
  | .subsImmA32 _ _ _ _ => fits32 rowSubsImmA32 (encode i) = true
  | .subsRegA32 _ _ _ => fits32 rowSubsRegA32 (encode i) = true
  | .addImmA32 _ _ _ _ => fits32 rowAddImmA32 (encode i) = true
  | .addRegA32 _ _ _ => fits32 rowAddRegA32 (encode i) = true
  | .addsImmA32 _ _ _ _ => fits32 rowAddsImmA32 (encode i) = true
  | .addsRegA32 _ _ _ => fits32 rowAddsRegA32 (encode i) = true
  | .orrImmA32 _ _ _ _ => fits32 rowOrrImmA32 (encode i) = true
  | .orrRegA32 _ _ _ => fits32 rowOrrRegA32 (encode i) = true
  | .movImmA32 _ _ _ => fits32 rowMovImmA32 (encode i) = true
  | .movRegA32 _ _ => fits32 rowMovRegA32 (encode i) = true
  | .movsImmA32 _ _ _ => fits32 rowMovsImmA32 (encode i) = true
  | .movsRegA32 _ _ => fits32 rowMovsRegA32 (encode i) = true
  | .cmpImmA32 _ _ _ => fits32 rowCmpImmA32 (encode i) = true
  | .cmpRegA32 _ _ => fits32 rowCmpRegA32 (encode i) = true
  | .ldrA32 _ _ _ _ => fits32 rowLdrA32 (encode i) = true
  | .strA32 _ _ _ _ => fits32 rowStrA32 (encode i) = true
  | .bA32 _ => fits32 rowBA32 (encode i) = true
  | .blA32 _ => fits32 rowBlA32 (encode i) = true
  | .bxA32 _ => fits32 rowBxA32 (encode i) = true
  | .movsImm8T16 _ _ => fits16 rowMovsImm8T16 (encode i) = true
  | .cmpImm8T16 _ _ => fits16 rowCmpImm8T16 (encode i) = true
  | .addsImm8T16 _ _ => fits16 rowAddsImm8T16 (encode i) = true
  | .subsImm8T16 _ _ => fits16 rowSubsImm8T16 (encode i) = true
  | .addsRegT16 _ _ _ => fits16 rowAddsRegT16 (encode i) = true
  | .subsRegT16 _ _ _ => fits16 rowSubsRegT16 (encode i) = true
  | .addsImm3T16 _ _ _ => fits16 rowAddsImm3T16 (encode i) = true
  | .subsImm3T16 _ _ _ => fits16 rowSubsImm3T16 (encode i) = true
  | .movsRegT16 _ _ => fits16 rowMovsRegT16 (encode i) = true
  | .cmpRegT16 _ _ => fits16 rowCmpRegT16 (encode i) = true
  | .addRegT16 _ _ => fits16 rowAddRegT16 (encode i) = true
  | .movRegT16 _ _ => fits16 rowMovRegT16 (encode i) = true
  | .bxT16 _ => fits16 rowBxT16 (encode i) = true
  | .strImm5T16 _ _ _ => fits16 rowStrImm5T16 (encode i) = true
  | .ldrImm5T16 _ _ _ => fits16 rowLdrImm5T16 (encode i) = true
  | .strSpT16 _ _ => fits16 rowStrSpT16 (encode i) = true
  | .ldrSpT16 _ _ => fits16 rowLdrSpT16 (encode i) = true
  | .addRdSpT16 _ _ => fits16 rowAddRdSpT16 (encode i) = true
  | .addSpSpT16 _ => fits16 rowAddSpSpT16 (encode i) = true
  | .subSpSpT16 _ => fits16 rowSubSpSpT16 (encode i) = true
  | .bT16 _ => fits16 rowBT16 (encode i) = true
  | .unknown unit => encode i = unit

theorem andImmA32 (rd rn rot : BitVec 4) (imm8 : BitVec 8) : Statement (.andImmA32 rd rn rot imm8) :=
  Row.fits_of (r := rowAndImmA32) (by simp [rowAndImmA32, or_and_right, place_and])

theorem andRegA32 (rd rn rm : BitVec 4) : Statement (.andRegA32 rd rn rm) :=
  Row.fits_of (r := rowAndRegA32) (by simp [rowAndRegA32, or_and_right, place_and])

theorem eorImmA32 (rd rn rot : BitVec 4) (imm8 : BitVec 8) : Statement (.eorImmA32 rd rn rot imm8) :=
  Row.fits_of (r := rowEorImmA32) (by simp [rowEorImmA32, or_and_right, place_and])

theorem eorRegA32 (rd rn rm : BitVec 4) : Statement (.eorRegA32 rd rn rm) :=
  Row.fits_of (r := rowEorRegA32) (by simp [rowEorRegA32, or_and_right, place_and])

theorem subImmA32 (rd rn rot : BitVec 4) (imm8 : BitVec 8) : Statement (.subImmA32 rd rn rot imm8) :=
  Row.fits_of (r := rowSubImmA32) (by simp [rowSubImmA32, or_and_right, place_and])

theorem subRegA32 (rd rn rm : BitVec 4) : Statement (.subRegA32 rd rn rm) :=
  Row.fits_of (r := rowSubRegA32) (by simp [rowSubRegA32, or_and_right, place_and])

theorem subsImmA32 (rd rn rot : BitVec 4) (imm8 : BitVec 8) : Statement (.subsImmA32 rd rn rot imm8) :=
  Row.fits_of (r := rowSubsImmA32) (by simp [rowSubsImmA32, or_and_right, place_and])

theorem subsRegA32 (rd rn rm : BitVec 4) : Statement (.subsRegA32 rd rn rm) :=
  Row.fits_of (r := rowSubsRegA32) (by simp [rowSubsRegA32, or_and_right, place_and])

theorem addImmA32 (rd rn rot : BitVec 4) (imm8 : BitVec 8) : Statement (.addImmA32 rd rn rot imm8) :=
  Row.fits_of (r := rowAddImmA32) (by simp [rowAddImmA32, or_and_right, place_and])

theorem addRegA32 (rd rn rm : BitVec 4) : Statement (.addRegA32 rd rn rm) :=
  Row.fits_of (r := rowAddRegA32) (by simp [rowAddRegA32, or_and_right, place_and])

theorem addsImmA32 (rd rn rot : BitVec 4) (imm8 : BitVec 8) : Statement (.addsImmA32 rd rn rot imm8) :=
  Row.fits_of (r := rowAddsImmA32) (by simp [rowAddsImmA32, or_and_right, place_and])

theorem addsRegA32 (rd rn rm : BitVec 4) : Statement (.addsRegA32 rd rn rm) :=
  Row.fits_of (r := rowAddsRegA32) (by simp [rowAddsRegA32, or_and_right, place_and])

theorem orrImmA32 (rd rn rot : BitVec 4) (imm8 : BitVec 8) : Statement (.orrImmA32 rd rn rot imm8) :=
  Row.fits_of (r := rowOrrImmA32) (by simp [rowOrrImmA32, or_and_right, place_and])

theorem orrRegA32 (rd rn rm : BitVec 4) : Statement (.orrRegA32 rd rn rm) :=
  Row.fits_of (r := rowOrrRegA32) (by simp [rowOrrRegA32, or_and_right, place_and])

theorem movImmA32 (rd rot : BitVec 4) (imm8 : BitVec 8) : Statement (.movImmA32 rd rot imm8) :=
  Row.fits_of (r := rowMovImmA32) (by simp [rowMovImmA32, or_and_right, place_and])

theorem movRegA32 (rd rm : BitVec 4) : Statement (.movRegA32 rd rm) :=
  Row.fits_of (r := rowMovRegA32) (by simp [rowMovRegA32, or_and_right, place_and])

theorem movsImmA32 (rd rot : BitVec 4) (imm8 : BitVec 8) : Statement (.movsImmA32 rd rot imm8) :=
  Row.fits_of (r := rowMovsImmA32) (by simp [rowMovsImmA32, or_and_right, place_and])

theorem movsRegA32 (rd rm : BitVec 4) : Statement (.movsRegA32 rd rm) :=
  Row.fits_of (r := rowMovsRegA32) (by simp [rowMovsRegA32, or_and_right, place_and])

theorem cmpImmA32 (rn rot : BitVec 4) (imm8 : BitVec 8) : Statement (.cmpImmA32 rn rot imm8) :=
  Row.fits_of (r := rowCmpImmA32) (by simp [rowCmpImmA32, or_and_right, place_and])

theorem cmpRegA32 (rn rm : BitVec 4) : Statement (.cmpRegA32 rn rm) :=
  Row.fits_of (r := rowCmpRegA32) (by simp [rowCmpRegA32, or_and_right, place_and])

theorem ldrA32 (up : BitVec 1) (rd rn : BitVec 4) (imm12 : BitVec 12) : Statement (.ldrA32 up rd rn imm12) :=
  Row.fits_of (r := rowLdrA32) (by simp [rowLdrA32, or_and_right, place_and])

theorem strA32 (up : BitVec 1) (rd rn : BitVec 4) (imm12 : BitVec 12) : Statement (.strA32 up rd rn imm12) :=
  Row.fits_of (r := rowStrA32) (by simp [rowStrA32, or_and_right, place_and])

theorem bA32 (imm24 : BitVec 24) : Statement (.bA32 imm24) :=
  Row.fits_of (r := rowBA32) (by simp [rowBA32, or_and_right, place_and])

theorem blA32 (imm24 : BitVec 24) : Statement (.blA32 imm24) :=
  Row.fits_of (r := rowBlA32) (by simp [rowBlA32, or_and_right, place_and])

theorem bxA32 (rm : BitVec 4) : Statement (.bxA32 rm) :=
  Row.fits_of (r := rowBxA32) (by simp [rowBxA32, or_and_right, place_and])

theorem movsImm8T16 (rd : BitVec 3) (imm8 : BitVec 8) : Statement (.movsImm8T16 rd imm8) :=
  Row.fits_of (r := rowMovsImm8T16) (by simp [rowMovsImm8T16, or_and_right, place_and])

theorem cmpImm8T16 (rn : BitVec 3) (imm8 : BitVec 8) : Statement (.cmpImm8T16 rn imm8) :=
  Row.fits_of (r := rowCmpImm8T16) (by simp [rowCmpImm8T16, or_and_right, place_and])

theorem addsImm8T16 (rdn : BitVec 3) (imm8 : BitVec 8) : Statement (.addsImm8T16 rdn imm8) :=
  Row.fits_of (r := rowAddsImm8T16) (by simp [rowAddsImm8T16, or_and_right, place_and])

theorem subsImm8T16 (rdn : BitVec 3) (imm8 : BitVec 8) : Statement (.subsImm8T16 rdn imm8) :=
  Row.fits_of (r := rowSubsImm8T16) (by simp [rowSubsImm8T16, or_and_right, place_and])

theorem addsRegT16 (rd rn rm : BitVec 3) : Statement (.addsRegT16 rd rn rm) :=
  Row.fits_of (r := rowAddsRegT16) (by simp [rowAddsRegT16, or_and_right, place_and])

theorem subsRegT16 (rd rn rm : BitVec 3) : Statement (.subsRegT16 rd rn rm) :=
  Row.fits_of (r := rowSubsRegT16) (by simp [rowSubsRegT16, or_and_right, place_and])

theorem addsImm3T16 (rd rn imm3 : BitVec 3) : Statement (.addsImm3T16 rd rn imm3) :=
  Row.fits_of (r := rowAddsImm3T16) (by simp [rowAddsImm3T16, or_and_right, place_and])

theorem subsImm3T16 (rd rn imm3 : BitVec 3) : Statement (.subsImm3T16 rd rn imm3) :=
  Row.fits_of (r := rowSubsImm3T16) (by simp [rowSubsImm3T16, or_and_right, place_and])

theorem movsRegT16 (rd rm : BitVec 3) : Statement (.movsRegT16 rd rm) :=
  Row.fits_of (r := rowMovsRegT16) (by simp [rowMovsRegT16, or_and_right, place_and])

theorem cmpRegT16 (rn rm : BitVec 3) : Statement (.cmpRegT16 rn rm) :=
  Row.fits_of (r := rowCmpRegT16) (by simp [rowCmpRegT16, or_and_right, place_and])

theorem addRegT16 (rdn rm : BitVec 4) : Statement (.addRegT16 rdn rm) :=
  Row.fits_of (r := rowAddRegT16) (by simp [rowAddRegT16, or_and_right, place_and])

theorem movRegT16 (rd rm : BitVec 4) : Statement (.movRegT16 rd rm) :=
  Row.fits_of (r := rowMovRegT16) (by simp [rowMovRegT16, or_and_right, place_and])

theorem bxT16 (rm : BitVec 4) : Statement (.bxT16 rm) :=
  Row.fits_of (r := rowBxT16) (by simp [rowBxT16, or_and_right, place_and])

theorem strImm5T16 (rt rn : BitVec 3) (imm5 : BitVec 5) : Statement (.strImm5T16 rt rn imm5) :=
  Row.fits_of (r := rowStrImm5T16) (by simp [rowStrImm5T16, or_and_right, place_and])

theorem ldrImm5T16 (rt rn : BitVec 3) (imm5 : BitVec 5) : Statement (.ldrImm5T16 rt rn imm5) :=
  Row.fits_of (r := rowLdrImm5T16) (by simp [rowLdrImm5T16, or_and_right, place_and])

theorem strSpT16 (rt : BitVec 3) (imm8 : BitVec 8) : Statement (.strSpT16 rt imm8) :=
  Row.fits_of (r := rowStrSpT16) (by simp [rowStrSpT16, or_and_right, place_and])

theorem ldrSpT16 (rt : BitVec 3) (imm8 : BitVec 8) : Statement (.ldrSpT16 rt imm8) :=
  Row.fits_of (r := rowLdrSpT16) (by simp [rowLdrSpT16, or_and_right, place_and])

theorem addRdSpT16 (rd : BitVec 3) (imm8 : BitVec 8) : Statement (.addRdSpT16 rd imm8) :=
  Row.fits_of (r := rowAddRdSpT16) (by simp [rowAddRdSpT16, or_and_right, place_and])

theorem addSpSpT16 (imm7 : BitVec 7) : Statement (.addSpSpT16 imm7) :=
  Row.fits_of (r := rowAddSpSpT16) (by simp [rowAddSpSpT16, or_and_right, place_and])

theorem subSpSpT16 (imm7 : BitVec 7) : Statement (.subSpSpT16 imm7) :=
  Row.fits_of (r := rowSubSpSpT16) (by simp [rowSubSpSpT16, or_and_right, place_and])

theorem bT16 (imm11 : BitVec 11) : Statement (.bT16 imm11) :=
  Row.fits_of (r := rowBT16) (by simp [rowBT16, or_and_right, place_and])

theorem unknown (unit : CodeUnit) : Statement (.unknown unit) := rfl

end Sys2Proof.Laws.EncodeFitsRow
end

