-- ==== Sys2Proof/Machine/Asm.lean ====
section
/-! DEFINITION. The assembler syntax of 30_encoding.md R125, as a printer of instructions. Immediates are printed in
decimal (log entry 7). No meaning depends on it. -/

namespace Sys2Proof

/-- `R0` to `R15`. -/
def regName (r : Reg) : String := "R" ++ toString r.val

def reg4Name (field : BitVec 4) : String := regName (reg4 field)

def reg3Name (field : BitVec 3) : String := regName (reg3 field)

/-- `#n` for a word. -/
def wordImm (v : Word) : String := "#" ++ toString v.toNat

/-- `#n` for a signed number. -/
def intImm (n : Int) : String := "#" ++ toString n

/-- `[Rn, #n]`: a base plus an offset. -/
def address (base : String) (offset : Int) : String := "[" ++ base ++ ", " ++ intImm offset ++ "]"

def hexDigit (n : Nat) : String :=
  match n with
  | 10 => "a" | 11 => "b" | 12 => "c" | 13 => "d" | 14 => "e" | 15 => "f"
  | d => toString d

/-- The `k` low hexadecimal digits of a number, most significant first. -/
def hexDigits : Nat → Nat → String
  | 0, _ => ""
  | k + 1, n => hexDigits k (n / 16) ++ hexDigit (n % 16)

def asm1 (mnemonic a : String) : String := mnemonic ++ " " ++ a

def asm2 (mnemonic a b : String) : String := mnemonic ++ " " ++ a ++ ", " ++ b

def asm3 (mnemonic a b c : String) : String := mnemonic ++ " " ++ a ++ ", " ++ b ++ ", " ++ c

/-- The text of an instruction (R125). -/
def Instr.asm : Instr → String
  | .andImmA32 rd rn rot imm8 => asm3 "AND" (reg4Name rd) (reg4Name rn) (wordImm (modifiedImm rot imm8))
  | .andRegA32 rd rn rm => asm3 "AND" (reg4Name rd) (reg4Name rn) (reg4Name rm)
  | .eorImmA32 rd rn rot imm8 => asm3 "EOR" (reg4Name rd) (reg4Name rn) (wordImm (modifiedImm rot imm8))
  | .eorRegA32 rd rn rm => asm3 "EOR" (reg4Name rd) (reg4Name rn) (reg4Name rm)
  | .subImmA32 rd rn rot imm8 => asm3 "SUB" (reg4Name rd) (reg4Name rn) (wordImm (modifiedImm rot imm8))
  | .subRegA32 rd rn rm => asm3 "SUB" (reg4Name rd) (reg4Name rn) (reg4Name rm)
  | .subsImmA32 rd rn rot imm8 => asm3 "SUBS" (reg4Name rd) (reg4Name rn) (wordImm (modifiedImm rot imm8))
  | .subsRegA32 rd rn rm => asm3 "SUBS" (reg4Name rd) (reg4Name rn) (reg4Name rm)
  | .addImmA32 rd rn rot imm8 => asm3 "ADD" (reg4Name rd) (reg4Name rn) (wordImm (modifiedImm rot imm8))
  | .addRegA32 rd rn rm => asm3 "ADD" (reg4Name rd) (reg4Name rn) (reg4Name rm)
  | .addsImmA32 rd rn rot imm8 => asm3 "ADDS" (reg4Name rd) (reg4Name rn) (wordImm (modifiedImm rot imm8))
  | .addsRegA32 rd rn rm => asm3 "ADDS" (reg4Name rd) (reg4Name rn) (reg4Name rm)
  | .orrImmA32 rd rn rot imm8 => asm3 "ORR" (reg4Name rd) (reg4Name rn) (wordImm (modifiedImm rot imm8))
  | .orrRegA32 rd rn rm => asm3 "ORR" (reg4Name rd) (reg4Name rn) (reg4Name rm)
  | .movImmA32 rd rot imm8 => asm2 "MOV" (reg4Name rd) (wordImm (modifiedImm rot imm8))
  | .movRegA32 rd rm => asm2 "MOV" (reg4Name rd) (reg4Name rm)
  | .movsImmA32 rd rot imm8 => asm2 "MOVS" (reg4Name rd) (wordImm (modifiedImm rot imm8))
  | .movsRegA32 rd rm => asm2 "MOVS" (reg4Name rd) (reg4Name rm)
  | .cmpImmA32 rn rot imm8 => asm2 "CMP" (reg4Name rn) (wordImm (modifiedImm rot imm8))
  | .cmpRegA32 rn rm => asm2 "CMP" (reg4Name rn) (reg4Name rm)
  | .ldrA32 up rd rn imm12 => asm2 "LDR" (reg4Name rd) (address (reg4Name rn) (memOffset up imm12))
  | .strA32 up rd rn imm12 => asm2 "STR" (reg4Name rd) (address (reg4Name rn) (memOffset up imm12))
  | .bA32 imm24 => asm1 "B" (intImm (branchOffsetA32 imm24))
  | .blA32 imm24 => asm1 "BL" (intImm (branchOffsetA32 imm24))
  | .bxA32 rm => asm1 "BX" (reg4Name rm)
  | .movsImm8T16 rd imm8 => asm2 "MOVS" (reg3Name rd) (wordImm (imm8.setWidth 32))
  | .cmpImm8T16 rn imm8 => asm2 "CMP" (reg3Name rn) (wordImm (imm8.setWidth 32))
  | .addsImm8T16 rdn imm8 => asm2 "ADDS" (reg3Name rdn) (wordImm (imm8.setWidth 32))
  | .subsImm8T16 rdn imm8 => asm2 "SUBS" (reg3Name rdn) (wordImm (imm8.setWidth 32))
  | .addsRegT16 rd rn rm => asm3 "ADDS" (reg3Name rd) (reg3Name rn) (reg3Name rm)
  | .subsRegT16 rd rn rm => asm3 "SUBS" (reg3Name rd) (reg3Name rn) (reg3Name rm)
  | .addsImm3T16 rd rn imm3 => asm3 "ADDS" (reg3Name rd) (reg3Name rn) (wordImm (imm3.setWidth 32))
  | .subsImm3T16 rd rn imm3 => asm3 "SUBS" (reg3Name rd) (reg3Name rn) (wordImm (imm3.setWidth 32))
  | .movsRegT16 rd rm => asm2 "MOVS" (reg3Name rd) (reg3Name rm)
  | .cmpRegT16 rn rm => asm2 "CMP" (reg3Name rn) (reg3Name rm)
  | .addRegT16 rdn rm => asm2 "ADD" (reg4Name rdn) (reg4Name rm)
  | .movRegT16 rd rm => asm2 "MOV" (reg4Name rd) (reg4Name rm)
  | .bxT16 rm => asm1 "BX" (reg4Name rm)
  | .strImm5T16 rt rn imm5 => asm2 "STR" (reg3Name rt) (address (reg3Name rn) (4 * imm5.toNat))
  | .ldrImm5T16 rt rn imm5 => asm2 "LDR" (reg3Name rt) (address (reg3Name rn) (4 * imm5.toNat))
  | .strSpT16 rt imm8 => asm2 "STR" (reg3Name rt) (address "SP" (4 * imm8.toNat))
  | .ldrSpT16 rt imm8 => asm2 "LDR" (reg3Name rt) (address "SP" (4 * imm8.toNat))
  | .addRdSpT16 rd imm8 => asm3 "ADD" (reg3Name rd) "SP" (wordImm (times4 imm8))
  | .addSpSpT16 imm7 => asm3 "ADD" "SP" "SP" (wordImm (times4 imm7))
  | .subSpSpT16 imm7 => asm3 "SUB" "SP" "SP" (wordImm (times4 imm7))
  | .bT16 imm11 => asm1 "B" (intImm (branchOffsetT16 imm11))
  | .unknown (.a32 w) => ".word 0x" ++ hexDigits 8 w.toNat
  | .unknown (.t16 h) => ".hword 0x" ++ hexDigits 4 h.toNat

end Sys2Proof
end

