-- ==== Sys2Proof/Tests/Slice0.lean ====
section
/-! SUPPORT. The model's own tests. Every expected value is from spec/95_test_vectors.md or worked out by hand from
the encodings of 30_encoding.md. The witnesses show that the hypotheses of the obligations can be met. -/

namespace Sys2Proof.Tests

set_option Elab.async false

open Sys2Proof.Machine Sys2Proof.Claims

/-! ### WellFormed: terms that the check refuses and terms that it accepts -/

/-- An A32 word that fits a row is no UNKNOWN. -/
theorem smoke_unknown_word_refused : (Instr.unknown (.a32 0xE3A00004)).wellFormed = false := by decide +kernel

/-- A T16 halfword that fits a row is no UNKNOWN. -/
theorem smoke_unknown_half_refused : (Instr.unknown (.t16 0x2005)).wellFormed = false := by decide +kernel

/-- The last row of each list is checked too. -/
theorem smoke_last_rows_refused :
    (Instr.unknown (.a32 0xE12FFF1E)).wellFormed = false ∧ (Instr.unknown (.t16 0xE7FE)).wellFormed = false := by
  decide +kernel

/-- A unit is checked against the rows of its own format alone. -/
theorem smoke_unknown_accepted :
    (Instr.unknown (.a32 0x00002005)).wellFormed = true ∧ (Instr.unknown (.t16 0xF000)).wellFormed = true := by
  decide +kernel

/-! ### Every constructor, from a word written out bit by bit (30_encoding.md R78 to R85, R100 to R121) -/

theorem test_decode_a32_immediate :
    decode32 0b1110_001_0000_0_0001_0010_0011_00000101 = .andImmA32 2 1 3 5 ∧
    decode32 0b1110_001_0001_0_0001_0010_0011_00000101 = .eorImmA32 2 1 3 5 ∧
    decode32 0b1110_001_0010_0_0001_0010_0011_00000101 = .subImmA32 2 1 3 5 ∧
    decode32 0b1110_001_0010_1_0001_0010_0011_00000101 = .subsImmA32 2 1 3 5 ∧
    decode32 0b1110_001_0100_0_0001_0010_0011_00000101 = .addImmA32 2 1 3 5 ∧
    decode32 0b1110_001_0100_1_0001_0010_0011_00000101 = .addsImmA32 2 1 3 5 ∧
    decode32 0b1110_001_1100_0_0001_0010_0011_00000101 = .orrImmA32 2 1 3 5 ∧
    decode32 0b1110_001_1101_0_0000_0010_0011_00000101 = .movImmA32 2 3 5 ∧
    decode32 0b1110_001_1101_1_0000_0010_0011_00000101 = .movsImmA32 2 3 5 ∧
    decode32 0b1110_001_1010_1_0001_0000_0011_00000101 = .cmpImmA32 1 3 5 := by decide +kernel

theorem test_decode_a32_register :
    decode32 0b1110_000_0000_0_0001_0010_00000000_0011 = .andRegA32 2 1 3 ∧
    decode32 0b1110_000_0001_0_0001_0010_00000000_0011 = .eorRegA32 2 1 3 ∧
    decode32 0b1110_000_0010_0_0001_0010_00000000_0011 = .subRegA32 2 1 3 ∧
    decode32 0b1110_000_0010_1_0001_0010_00000000_0011 = .subsRegA32 2 1 3 ∧
    decode32 0b1110_000_0100_0_0001_0010_00000000_0011 = .addRegA32 2 1 3 ∧
    decode32 0b1110_000_0100_1_0001_0010_00000000_0011 = .addsRegA32 2 1 3 ∧
    decode32 0b1110_000_1100_0_0001_0010_00000000_0011 = .orrRegA32 2 1 3 ∧
    decode32 0b1110_000_1101_0_0000_0010_00000000_0011 = .movRegA32 2 3 ∧
    decode32 0b1110_000_1101_1_0000_0010_00000000_0011 = .movsRegA32 2 3 ∧
    decode32 0b1110_000_1010_1_0001_0000_00000000_0011 = .cmpRegA32 1 3 := by decide +kernel

theorem test_decode_a32_load_store_branch :
    decode32 0b1110_01_0_1_1_0_0_1_0001_0010_000100000100 = .ldrA32 1 2 1 0x104 ∧
    decode32 0b1110_01_0_1_0_0_0_0_0001_0010_000100000100 = .strA32 0 2 1 0x104 ∧
    decode32 0b1110_101_0_000000000000000000000010 = .bA32 2 ∧
    decode32 0b1110_101_1_111111111111111111111110 = .blA32 0xFFFFFE ∧
    decode32 0b1110_0001_0010_1111_1111_1111_0001_1110 = .bxA32 14 := by decide +kernel

theorem test_decode_t16_data :
    decode16 0b00100_011_00000101 = .movsImm8T16 3 5 ∧
    decode16 0b00101_011_00000101 = .cmpImm8T16 3 5 ∧
    decode16 0b00110_011_00000101 = .addsImm8T16 3 5 ∧
    decode16 0b00111_011_00000101 = .subsImm8T16 3 5 ∧
    decode16 0b0001100_011_010_001 = .addsRegT16 1 2 3 ∧
    decode16 0b0001101_011_010_001 = .subsRegT16 1 2 3 ∧
    decode16 0b0001110_011_010_001 = .addsImm3T16 1 2 3 ∧
    decode16 0b0001111_011_010_001 = .subsImm3T16 1 2 3 ∧
    decode16 0b0000000000_011_010 = .movsRegT16 2 3 ∧
    decode16 0b0100001010_011_010 = .cmpRegT16 2 3 ∧
    decode16 0b01000100_1_0011_010 = .addRegT16 10 3 ∧
    decode16 0b01000110_0_1011_010 = .movRegT16 2 11 := by decide +kernel

theorem test_decode_t16_rest :
    decode16 0b01000111_0_1110_000 = .bxT16 14 ∧
    decode16 0b01100_00011_010_001 = .strImm5T16 1 2 3 ∧
    decode16 0b01101_00011_010_001 = .ldrImm5T16 1 2 3 ∧
    decode16 0b10010_011_00000101 = .strSpT16 3 5 ∧
    decode16 0b10011_011_00000101 = .ldrSpT16 3 5 ∧
    decode16 0b10101_011_00000101 = .addRdSpT16 3 5 ∧
    decode16 0b101100000_0000101 = .addSpSpT16 5 ∧
    decode16 0b101100001_0000101 = .subSpSpT16 5 ∧
    decode16 0b11100_11111111110 = .bT16 0x7FE ∧
    decode16 0b1111000000000000 = .unknown (.t16 0xF000) := by decide +kernel

/-! ### The records of 95_test_vectors.md L2-A and L2-B -/

theorem test_records_a32_data :
    ([0xE3A00004, 0xE3A034FF, 0xE3A01C01, 0xE3A0DA01, 0xE3800C22, 0xE0810002, 0xE0410002, 0xE2910001, 0xE2510001,
      0xE3B00000, 0xE3500004, 0xE1500001, 0xE0010002, 0xE1810002, 0xE0210002, 0xE1A0F00E, 0xE28FF004].map
        fun w => (decode32 w).op) =
    [.mov 0 (.imm 4), .mov 3 (.imm 0xFF000000), .mov 1 (.imm 0x100), .mov 13 (.imm 0x1000), .orr 0 0 (.imm 0x2200),
      .add 0 1 (.reg 2), .sub 0 1 (.reg 2), .adds 0 1 (.imm 1), .subs 0 1 (.imm 1), .movs 0 (.imm 0),
      .cmp 0 (.imm 4), .cmp 0 (.reg 1), .and 0 1 (.reg 2), .orr 0 1 (.reg 2), .eor 0 1 (.reg 2), .mov 15 (.reg 14),
      .add 15 15 (.imm 4)] := by decide +kernel

theorem test_records_a32_rest :
    ([0xE5910004, 0xE5010004, 0xE5114104, 0xEA000002, 0xEA000000, 0xEAFFFFFF, 0xEAFFFFFE, 0xEA7FFFFF, 0xEA800000,
      0xEB000004, 0xE12FFF1E].map fun w => (decode32 w).op) =
    [.ldr 0 1 4, .str 0 1 (-4), .ldr 4 1 (-0x104), .b 8, .b 0, .b (-4), .b (-8), .b 33554428, .b (-33554432), .bl 16,
      .bx 14] := by decide +kernel

theorem test_unknown_a32 :
    ([0xE0010092, 0xE2110001, 0x03A00004, 0xF3A00004, 0xE1A00012, 0xE3A10004, 0xE3501004, 0xE5B10004, 0xE4910004,
      0xE5D10004, 0xE7910002, 0xE12FFF3E].all fun w => decode32 w == .unknown (.a32 w)) = true := by decide +kernel

theorem test_records_t16_data :
    ([0x2005, 0x212A, 0x2BFF, 0x3003, 0x38FF, 0x1888, 0x1A8B, 0x1DC8, 0x1FC8, 0x0008, 0x428A, 0x4489, 0x46F7].map
        fun h => (decode16 h).op) =
    [.movs 0 (.imm 5), .movs 1 (.imm 42), .cmp 3 (.imm 255), .adds 0 0 (.imm 3), .subs 0 0 (.imm 255),
      .adds 0 1 (.reg 2), .subs 3 1 (.reg 2), .adds 0 1 (.imm 7), .subs 0 1 (.imm 7), .movs 0 (.reg 1),
      .cmp 2 (.reg 1), .add 9 9 (.reg 1), .mov 15 (.reg 14)] := by decide +kernel

theorem test_records_t16_rest :
    ([0x4770, 0x4778, 0x6048, 0x6848, 0x9101, 0x9A01, 0xA9FF, 0xB002, 0xB07F, 0xB082, 0xB0FF, 0xE000, 0xE7FE, 0xE3FF,
      0xE400].map fun h => (decode16 h).op) =
    [.bx 14, .bx 15, .str 0 1 4, .ldr 0 1 4, .str 1 13 4, .ldr 2 13 4, .add 1 13 (.imm 0x3FC), .add 13 13 (.imm 8),
      .add 13 13 (.imm 0x1FC), .sub 13 13 (.imm 8), .sub 13 13 (.imm 0x1FC), .b 0, .b (-4), .b 2046, .b (-2048)] := by
  decide +kernel

theorem test_unknown_t16 :
    ([0x4771, 0x4780, 0x45F7, 0x0048, 0x4000, 0x7FC8, 0xBF00, 0xD0FE, 0xF000, 0xF800].all
      fun h => decode16 h == .unknown (.t16 h)) = true := by decide +kernel

/-- `size` and `raw` of an UNKNOWN record (L2-A, L2-B). -/
theorem test_unknown_record :
    (decode32 0xE0010092).record = ⟨.four, 0xE0010092, .unknown⟩ ∧ (decode16 0xF800).record = ⟨.two, 0xF800, .unknown⟩ := by
  decide +kernel

/-- The rotations of L2-D. -/
theorem test_modified_immediate :
    modifiedImm 4 0xFF = 0xFF000000 ∧ modifiedImm 15 0xFF = 0x3FC ∧ modifiedImm 1 1 = 0x40000000 ∧
    modifiedImm 0 0xAB = 0xAB := by decide +kernel

/-! ### The encoder, on the words of L1-4, L2-A and L2-B -/

theorem test_encode :
    encode (.addRegA32 0 1 2) = .a32 0xE0810002 ∧ encode (.movImmA32 3 4 0xFF) = .a32 0xE3A034FF ∧
    encode (.strA32 0 0 1 4) = .a32 0xE5010004 ∧ encode (.bA32 0xFFFFFF) = .a32 0xEAFFFFFF ∧
    encode (.addRegT16 9 1) = .t16 0x4489 ∧ encode (.subsImm3T16 0 1 7) = .t16 0x1FC8 ∧
    encode (.bT16 0x7FE) = .t16 0xE7FE := by decide +kernel

/-! ### Images (L2-C) -/

/-- The sizes of an image's records, or its error. -/
def layout (length a32Bytes : Nat) : Except DecodeError (List (Nat × Nat)) :=
  match decodeImage (List.replicate length 0) a32Bytes with
  | .ok records => .ok ((List.range records.length).map fun k => (offsetOf records k, (records[k]?.map
      fun i => i.size.bytes).getD 0))
  | .error e => .error e

/-- A result as plain data. -/
def outcome {α β : Type} : Except α β → Option α × Option β
  | .ok b => (none, some b)
  | .error a => (some a, none)

theorem test_image_layout :
    outcome (layout 0 0) = (none, some []) ∧ outcome (layout 6 4) = (none, some [(0, 4), (4, 2)]) ∧
    outcome (layout 8 4) = (none, some [(0, 4), (4, 2), (6, 2)]) := by decide +kernel

theorem test_image_truncated :
    outcome (layout 7 4) = (some .truncatedInput, none) ∧ outcome (layout 5 0) = (some .truncatedInput, none) ∧
    outcome (layout 6 2) = (some .truncatedInput, none) ∧ outcome (layout 4 8) = (some .truncatedInput, none) := by
  decide +kernel

theorem test_image_byte_order :
    outcome (decodeImage [0x04, 0x00, 0xA0, 0xE3, 0x05, 0x20] 4) =
      (none, some [.movImmA32 0 0 4, .movsImm8T16 0 5]) := by decide +kernel

/-- Table words: at most 16 bits is T16, 17 to 32 bits A32. -/
theorem test_table_words :
    decodeTableWord 16 0x4770 = some (.bxT16 14) ∧ decodeTableWord 32 0xE12FFF1E = some (.bxA32 14) ∧
    decodeTableWord 32 0 = some (.unknown (.a32 0)) ∧ decodeTableWord 16 0xF800 = some (.unknown (.t16 0xF800)) ∧
    decodeTableWord 48 0 = none := by decide +kernel

/-! ### Assembler syntax (30_encoding.md R125) -/

theorem test_asm :
    ([.addRegA32 0 1 2, .ldrA32 0 4 1 0x104, .addRdSpT16 1 255, .movRegT16 15 14, .bT16 0x7FE, .blA32 4,
      .unknown (.a32 0xE0010092), .unknown (.t16 0xF000)].map Instr.asm) =
    ["ADD R0, R1, R2", "LDR R4, [R1, #-260]", "ADD R1, SP, #1020", "MOV R15, R14", "B #-4", "BL #16",
      ".word 0xe0010092", ".hword 0xf000"] := by decide +kernel

/-! ### Single records (L1-4, L2-D to L2-F) -/

/-- A part of the next state, if there is one. -/
def after {α : Type} (part : State → α) : Result → Option α
  | .next t => some (part t)
  | .fault _ => none
  | .refused _ => none

/-- Reset with `x[1]` and `x[2]` set. -/
def with12 (a b : Word) : State := (State.reset.setReg 1 a).setReg 2 b

/-- The flag tuple (Z, N, C, V). -/
def tuple (z n c v : Nat) : Flags := ⟨z == 1, n == 1, c == 1, v == 1⟩

def allSet : Flags := tuple 1 1 1 1

/-- `x[0]` and the flags after one A32 word on `x[1] = a`, `x[2] = b`, in a step. -/
def stepA32 (w : Word) (a b : Word) (old : Flags := tuple 0 0 0 0) : Option (Word × Flags) :=
  after (fun t => (t.reg 0, t.flags)) (step (((with12 a b).setFlags old).placeInstr (decode32 w)))

theorem test_adds :
    stepA32 0xE0910002 5 7 = some (0xC, tuple 0 0 0 0) ∧
    stepA32 0xE0910002 0xFFFFFFFF 1 = some (0, tuple 1 0 1 0) ∧
    stepA32 0xE0910002 0x7FFFFFFF 1 = some (0x80000000, tuple 0 1 0 1) ∧
    stepA32 0xE0910002 0x80000000 0x80000000 = some (0, tuple 1 0 1 1) ∧
    stepA32 0xE0910002 0xFFFFFFFF 0xFFFFFFFF = some (0xFFFFFFFE, tuple 0 1 1 0) ∧
    stepA32 0xE0910002 0x80000000 0xFFFFFFFF = some (0x7FFFFFFF, tuple 0 0 1 1) := by decide +kernel

theorem test_subs :
    stepA32 0xE0510002 5 3 = some (2, tuple 0 0 1 0) ∧
    stepA32 0xE0510002 3 5 = some (0xFFFFFFFE, tuple 0 1 0 0) ∧
    stepA32 0xE0510002 4 4 = some (0, tuple 1 0 1 0) ∧
    stepA32 0xE0510002 0x80000000 1 = some (0x7FFFFFFF, tuple 0 0 1 1) ∧
    stepA32 0xE0510002 0x7FFFFFFF 0xFFFFFFFF = some (0x80000000, tuple 0 1 0 1) ∧
    stepA32 0xE0510002 0 0x80000000 = some (0x80000000, tuple 0 1 0 1) := by decide +kernel

theorem test_cmp :
    stepA32 0xE1510002 0 4 = some (0, tuple 0 1 0 0) ∧
    stepA32 0xE1510002 0xFFFFFFFF 0 allSet = some (0, tuple 0 1 1 0) := by decide +kernel

theorem test_flagless :
    stepA32 0xE0810002 0xFFFFFFFF 1 allSet = some (0, allSet) ∧
    stepA32 0xE0410002 0 1 allSet = some (0xFFFFFFFF, allSet) ∧
    stepA32 0xE0010002 0xF0F0F0F0 0xFF00FF00 allSet = some (0xF000F000, allSet) ∧
    stepA32 0xE1810002 0xF0F0F0F0 0xFF00FF00 allSet = some (0xFFF0FFF0, allSet) ∧
    stepA32 0xE0210002 0xF0F0F0F0 0xFF00FF00 allSet = some (0x0FF00FF0, allSet) ∧
    stepA32 0xE3A004FF 0 0 allSet = some (0xFF000000, allSet) := by decide +kernel

theorem test_movs :
    stepA32 0xE3B00000 0 0 (tuple 0 0 1 1) = some (0, tuple 1 0 1 1) ∧
    stepA32 0xE3B004FF 0 0 (tuple 1 0 0 0) = some (0xFF000000, tuple 0 1 0 0) ∧
    stepA32 0xE1B00002 0 5 (tuple 0 1 1 0) = some (5, tuple 0 0 1 0) := by decide +kernel

/-- Source and destination are one register. -/
theorem test_source_is_destination :
    after (fun t => t.reg 1) (exec (.addRegA32 1 1 1) (with12 5 0)) = some 10 ∧
    after (fun t => (t.reg 1, t.flags)) (exec (.subsRegA32 1 1 1) (with12 5 0)) = some (0, tuple 1 0 1 0) := by decide +kernel

/-- `x[15]` is an ordinary register, and the pc advances as always (10_state.md R23). -/
theorem test_write_x15_is_no_branch :
    after (fun t => (t.reg 15, t.pc)) (exec (.movRegA32 15 14) (State.reset.setReg 14 0x40)) = some (0x40, 4) ∧
    after (fun t => (t.reg 15, t.pc)) (exec (.movRegT16 15 14) (State.reset.setReg 14 0x40)) = some (0x40, 2) := by
  decide +kernel

/-- The memory of L2-E, as its listed bytes. -/
def withMem (m : Memory) (a : Word) : State := { with12 a 0 with mem := m }

theorem test_ldr :
    after (fun t => (t.reg 0, t.pc)) (exec (decode32 0xE5910004)
      (withMem [(0x104, 0x78), (0x105, 0x56), (0x106, 0x34), (0x107, 0x12)] 0x100)) = some (0x12345678, 4) ∧
    after (fun t => (t.reg 0, t.pc)) (exec (decode32 0xE5910001)
      (withMem [(0, 0x11), (1, 0x22), (2, 0x33), (3, 0x44)] 0)) = some (0x00443322, 4) ∧
    after (fun t => (t.reg 0, t.pc)) (exec (decode32 0xE5910001)
      (withMem [(0, 0x11), (1, 0x22), (2, 0x33), (3, 0x44)] 0xFFFFFFFF)) = some (0x44332211, 4) ∧
    after (fun t => (t.reg 1, t.pc)) (exec (decode32 0xE5911000) (withMem [(0x101, 2)] 0x100)) = some (0x200, 4) ∧
    after (fun t => (t.reg 0, t.pc)) (exec (decode32 0xE5910000) (withMem [(0xFFFF, 0xAB)] 0xFFFC)) =
      some (0xAB000000, 4) := by decide +kernel

theorem test_str :
    after (fun t => (t.mem, t.pc)) (exec (decode32 0xE5010004) ((with12 0x200 0).setReg 0 0xDEADBEEF)) =
      some ([(0x1FC, 0xEF), (0x1FD, 0xBE), (0x1FE, 0xAD), (0x1FF, 0xDE)], 4) ∧
    after (fun t => (t.mem, t.pc)) (exec (decode16 0x9101) ((with12 42 0).setReg 13 0x1000)) =
      some ([(0x1004, 0x2A)], 2) := by decide +kernel

theorem test_memory_violation :
    (∀ w ∈ [0xE5910000#32, 0xE5810000#32],
      after (fun t => (t.runResult, t.pc, t.mem, t.reg 0))
        (step (((with12 0xFFFD 0).setReg 0 7).placeInstr (decode32 w))) = some (⟨.memoryViolation, 0⟩, 0, [], 7)) ∧
    after (fun t => t.haltReason) (step ((with12 0 0).placeInstr (decode32 0xE5110004))) = some .memoryViolation := by
  decide +kernel

/-- `pc` and `x[14]` after one record at `pc`. -/
def branch (i : Instr) (pc : Word) (s : State) : Option (Word × Word) :=
  after (fun t => (t.pc, t.reg 14)) (exec i { s with pc := pc })

theorem test_branches :
    branch (decode32 0xEA000002) 0 State.reset = some (8, 0) ∧
    branch (decode32 0xEA000000) 0 State.reset = some (0, 0) ∧
    branch (decode32 0xEAFFFFFC) 4 State.reset = some (0xFFFFFFF4, 0) ∧
    branch (decode16 0xE7FE) 6 State.reset = some (2, 0) := by decide +kernel

theorem test_branch_link :
    branch (decode32 0xEB000004) 8 State.reset = some (24, 12) ∧
    branch (decode32 0xEB000000) 0 State.reset = some (0, 4) ∧
    after (fun t => (t.pc, t.reg 14)) (execRecord ⟨.two, 0, .bl 16⟩ { State.reset with pc := 8 }) = some (24, 12) := by
  decide +kernel

theorem test_branch_exchange :
    branch (decode32 0xE12FFF1E) 0x20 (State.reset.setReg 14 12) = some (12, 12) ∧
    branch (decode32 0xE12FFF13) 0 (State.reset.setReg 3 0x13) = some (0x13, 0) ∧
    branch (decode16 0x4770) 6 (State.reset.setReg 14 4) = some (4, 4) := by decide +kernel

theorem test_unknown_reports :
    after (fun t => (t.pc, t.diagnostics)) (exec (decode32 0xE0010092) State.reset) =
      some (4, [⟨0, 0xE0010092⟩]) ∧
    after (fun t => (t.pc, t.diagnostics)) (exec (decode16 0xF000) { State.reset with pc := 4 }) =
      some (6, [⟨4, 0xF000⟩]) := by decide +kernel

/-- The T16 forms that name the stack register or scale their offset. -/
theorem test_t16_forms :
    after (fun t => (t.reg 13, t.pc)) (exec (decode16 0xB082) (State.reset.setReg 13 0x1000)) = some (0xFF8, 2) ∧
    after (fun t => (t.reg 13, t.pc)) (exec (decode16 0xB002) (State.reset.setReg 13 0xFF8)) = some (0x1000, 2) ∧
    after (fun t => (t.reg 1, t.pc)) (exec (decode16 0xA9FF) (State.reset.setReg 13 0x1000)) = some (0x13FC, 2) ∧
    after (fun t => (t.reg 0, t.pc)) (exec (decode16 0x1DC8) (with12 1 0)) = some (8, 2) := by decide +kernel

/-! ### The sequencer (L1-3, L2-G) -/

/-- L1-3: a word and a halfword. -/
theorem test_fetch :
    (([0, 1, 2, 3, 4, 5, 6, 0xFFFFFFFF] : List Word).map fun pc =>
      ({ State.reset with records := [.movImmA32 0 0 4, .movsImm8T16 0 5], pc := pc } : State).fetch) =
    [some (.movImmA32 0 0 4), none, none, none, some (.movsImm8T16 0 5), none, none, none] := by decide +kernel

/-- The RunResult and the end pc. -/
def result (records : List Instr) (maxCycles : Nat) : Option (RunResult × Word) :=
  after (fun t => (t.runResult, t.pc)) (run records State.reset maxCycles)

theorem test_runs :
    result [] 100 = some (⟨.outOfBounds, 0⟩, 0) ∧
    result [.bA32 0] 0 = some (⟨.boundReached, 0⟩, 0) ∧
    result [.bA32 0] 1 = some (⟨.boundReached, 1⟩, 0) ∧
    result [.movImmA32 0 0 4] 1 = some (⟨.boundReached, 1⟩, 4) ∧
    result [.movImmA32 0 0 4] 2 = some (⟨.outOfBounds, 1⟩, 4) ∧
    result [.ldrA32 0 0 1 4] 100 = some (⟨.memoryViolation, 0⟩, 0) := by decide +kernel

/-- Loading an image that is truncated is the fault, and no run starts. -/
theorem test_load_fault :
    (match State.reset.load [1, 2, 3] 0 100 with | .fault f => some f | _ => none) = some .truncatedInput := by decide +kernel

/-- `withFetchWord` on a halted machine with a spent budget makes the next step run the word. -/
theorem test_with_fetch_word :
    after (fun t => (t.reg 0, t.cycles, t.runState))
      (step (State.withFetchWord { State.reset with runState := .halted, haltReason := .boundReached, cycles := 100 }
        16 0x2005)) = some (5, 101, .running) := by decide +kernel

/-! ### Witnesses: the hypotheses of each obligation are met -/

/-- `[MOV R0,#4; MOVS R0,#5]` at record 0, after reset. -/
def running : State := { State.reset with records := [.movImmA32 0 0 4, .movsImm8T16 0 5] }

def haltedState : State := { State.reset with runState := .halted, haltReason := .boundReached, cycles := 100 }

/-- A state whose next step runs `i`. -/
def readyFor (i : Instr) : State := State.reset.placeInstr i

theorem witness_DecodeEncodeRoundTrip :
    (Instr.addImmA32 15 15 15 255).wellFormed = true ∧ (Instr.addRegT16 15 15).wellFormed = true ∧
    (Instr.unknown (.a32 0xFFFFFFFF)).wellFormed = true := by decide +kernel

theorem witness_ConditionalWordsAreUnknown :
    (0x03A00004 : Word).extractLsb' 28 4 ≠ 0b1110 ∧ (0xDFFFFFFF : Word).extractLsb' 28 4 ≠ 0b1110 ∧
    (0xF0000000 : Word).extractLsb' 28 4 ≠ 0b1110 := by decide +kernel

theorem witness_A32ImmediateDataProcessingRecords :
    (0xE2000000 : Word).extractLsb' 25 7 = 0b1110001 ∧ (0xE3FFFFFF : Word).extractLsb' 25 7 = 0b1110001 := by
  decide +kernel

theorem witness_A32RegisterDataProcessingRecords :
    ((0xE1F0000F : Word).extractLsb' 25 7 = 0b1110000 ∧ (0xE1F0000F : Word).extractLsb' 4 8 = 0) ∧
    ((0xE0010092 : Word).extractLsb' 25 7 = 0b1110000 ∧ (0xE0010092 : Word).extractLsb' 4 8 ≠ 0 ∧
      (0xE0010092 : Word) &&& 0xFFFFFFF0 ≠ 0xE12FFF10) := by decide +kernel

theorem witness_A32LoadStoreRecords :
    (0xE4000000 : Word).extractLsb' 26 6 = 0b111001 ∧ (0xE7FFFFFF : Word).extractLsb' 26 6 = 0b111001 ∧
    (0xE5910FFF : Word).extractLsb' 26 6 = 0b111001 := by decide +kernel

theorem witness_A32BranchRecords :
    (0xEA800000 : Word).extractLsb' 25 7 = 0b1110101 ∧ (0xEB7FFFFF : Word).extractLsb' 25 7 = 0b1110101 ∧
    (decode (.a32 0xEA800000)).op = .b (-(2 ^ 25)) ∧ (decode (.a32 0xEB7FFFFF)).op = .bl (2 ^ 25 - 4) ∧
    (0x012FFF1E : Word) &&& 0x0FFFFFF0 = 0x012FFF10 ∧ (0x012FFF1E : Word).extractLsb' 28 4 ≠ 0b1110 ∧
    (0xE12FFF1F : Word) &&& 0xFFFFFFF0 = 0xE12FFF10 ∧ (0xE12FFF30 : Word) &&& 0xFFFFFFF0 = 0xE12FFF30 := by
  decide +kernel

theorem witness_OtherA32ClassesAreUnknown :
    (0xE8000000 : Word).extractLsb' 25 3 = 0b100 ∧ (0xEFFFFFFF : Word).extractLsb' 26 2 = 0b11 := by decide +kernel

/-- For each clause the least and the greatest halfword that it covers. -/
theorem witness_T16FlagSettingForms :
    ([0x2000, 0x27FF].all fun h : Half => h &&& 0xF800 == 0x2000) ∧
    ([0x2800, 0x2FFF].all fun h : Half => h &&& 0xF800 == 0x2800) ∧
    ([0x3000, 0x37FF].all fun h : Half => h &&& 0xF800 == 0x3000) ∧
    ([0x3800, 0x3FFF].all fun h : Half => h &&& 0xF800 == 0x3800) ∧
    ([0x1800, 0x19FF].all fun h : Half => h &&& 0xFE00 == 0x1800) ∧
    ([0x1A00, 0x1BFF].all fun h : Half => h &&& 0xFE00 == 0x1A00) ∧
    ([0x1C00, 0x1DFF].all fun h : Half => h &&& 0xFE00 == 0x1C00) ∧
    ([0x1E00, 0x1FFF].all fun h : Half => h &&& 0xFE00 == 0x1E00) := by decide +kernel

theorem witness_T16RegisterForms :
    ([0x0000, 0x003F].all fun h : Half => h &&& 0xFFC0 == 0x0000) ∧
    ([0x0040, 0x07FF].all fun h : Half => h.extractLsb' 11 5 == 0 && h.extractLsb' 6 5 != 0) ∧
    ([0x4280, 0x42BF].all fun h : Half => h &&& 0xFFC0 == 0x4280) ∧
    ([0x4400, 0x44FF].all fun h : Half => h &&& 0xFF00 == 0x4400) ∧
    ([0x4600, 0x46FF].all fun h : Half => h &&& 0xFF00 == 0x4600) ∧
    ([0x4700, 0x4778].all fun h : Half => h &&& 0xFF87 == 0x4700) ∧
    ([0x4780, 0x47FF].all fun h : Half => h &&& 0xFF00 == 0x4700 && h.getLsbD 7) ∧
    ([0x4701, 0x477F].all fun h : Half => h &&& 0xFF00 == 0x4700 && h.extractLsb' 0 3 != 0) := by decide +kernel

theorem witness_T16AddressAndBranchForms :
    ([0x6000, 0x67FF].all fun h : Half => h &&& 0xF800 == 0x6000) ∧
    ([0x6800, 0x6FFF].all fun h : Half => h &&& 0xF800 == 0x6800) ∧
    ([0x9000, 0x97FF].all fun h : Half => h &&& 0xF800 == 0x9000) ∧
    ([0x9800, 0x9FFF].all fun h : Half => h &&& 0xF800 == 0x9800) ∧
    ([0xA800, 0xAFFF].all fun h : Half => h &&& 0xF800 == 0xA800) ∧
    ([0xB000, 0xB07F].all fun h : Half => h &&& 0xFF80 == 0xB000) ∧
    ([0xB080, 0xB0FF].all fun h : Half => h &&& 0xFF80 == 0xB080) ∧
    ([0xE000, 0xE7FF].all fun h : Half => h &&& 0xF800 == 0xE000) := by decide +kernel

/-- The ends of each range of the rule. They fit no row. -/
theorem witness_T16UnknownClasses :
    ([0x0040, 0x17FF, 0x4000, 0x43FF, 0x4500, 0x45FF, 0x4780, 0x5FFF, 0x7000, 0x8FFF, 0xA000, 0xA7FF, 0xB100, 0xDFFF,
      0xE800, 0xFFFF].all fun h => rowsT16.all fun r => h &&& r.mask != r.pattern) ∧
    ([0x0040, 0x17FF].all fun h : Half => decide (h.toNat ≤ 0x17FF) && h &&& 0xFFC0 != 0) ∧
    ([0x4000, 0x43FF].all fun h : Half => decide (0x4000 ≤ h.toNat) && decide (h.toNat ≤ 0x43FF) &&
      h &&& 0xFFC0 != 0x4280) := by decide +kernel

/-- An image for each of the three outcomes. -/
theorem witness_TruncatedInputExactly :
    (∃ buf : List Byte, buf.length = 4 ∧ buf.length < 8) ∧
    (∃ buf : List Byte, ¬ (0 % 4 ≠ 0 ∨ buf.length < 0 ∨ (buf.length - 0) % 2 ≠ 0) ∧ 2 ^ 31 < buf.length) ∧
    (∃ buf : List Byte, ¬ (4 % 4 ≠ 0 ∨ buf.length < 4 ∨ (buf.length - 4) % 2 ≠ 0) ∧ buf.length ≤ 2 ^ 31) :=
  ⟨⟨List.replicate 4 0, by simp⟩, ⟨List.replicate (2 ^ 31 + 2) 0, by simp [-List.reduceReplicate]⟩,
    ⟨List.replicate 6 0, by simp⟩⟩

/-- One word and one halfword. -/
theorem witness_ImageRecordsInBufferOrder :
    decodeImage [0x04, 0x00, 0xA0, 0xE3, 0x05, 0x20] 4 = .ok [.movImmA32 0 0 4, .movsImm8T16 0 5] := by rfl

theorem witness_ImageRoundTrip :
    (∀ i ∈ [Instr.movImmA32 0 0 4], i.wellFormed = true ∧ i.size = .four) ∧
    (∀ i ∈ [Instr.movsImm8T16 0 5], i.wellFormed = true ∧ i.size = .two) ∧ 4 * 1 + 2 * 1 ≤ 2 ^ 31 := by
  decide +kernel

theorem witness_DataProcessingHasA32Encoding : isDataProcessing (decode (.t16 0xB0FF)).op := by
  rw [show (decode (.t16 0xB0FF)).op = .sub 13 13 (.imm 0x1FC) by decide +kernel]; trivial

/-- Both answers of each clause: carry, borrow and both signs of overflow. -/
theorem witness_CarryAndOverflowMeaning :
    (flagUnit (alu .add 0xFFFFFFFF 1) allSet).c = true ∧ (flagUnit (alu .add 0xFFFFFFFF 0) allSet).c = false ∧
    (flagUnit (alu .add 0x7FFFFFFF 1) allSet).v = true ∧ (flagUnit (alu .add 0x80000000 0xFFFFFFFF) allSet).v = true ∧
    (flagUnit (alu .sub 4 4) allSet).c = true ∧ (flagUnit (alu .sub 3 4) allSet).c = false ∧
    (flagUnit (alu .sub 0 0x80000000) allSet).v = true ∧ (flagUnit (alu .sub 0x80000000 0) allSet).v = false := by
  decide +kernel

/-- Each form of ADD. -/
theorem witness_AddWritesSum :
    ([.addImmA32 0 1 0 5, .addRegA32 0 1 2, .addRegT16 9 1, .addRdSpT16 1 255, .addSpSpT16 127].map Instr.op) =
    [.add 0 1 (.imm 5), .add 0 1 (.reg 2), .add 9 9 (.reg 1), .add 1 13 (.imm 0x3FC), .add 13 13 (.imm 0x1FC)] := by
  decide +kernel

/-- Each form of ADDS. -/
theorem witness_AddsWritesSumAndFlags :
    ([.addsImmA32 0 1 0 5, .addsRegA32 0 1 2, .addsImm8T16 0 3, .addsRegT16 0 1 2, .addsImm3T16 0 1 7].map Instr.op) =
    [.adds 0 1 (.imm 5), .adds 0 1 (.reg 2), .adds 0 0 (.imm 3), .adds 0 1 (.reg 2), .adds 0 1 (.imm 7)] := by
  decide +kernel

/-- Each form of SUB. -/
theorem witness_SubWritesDifference :
    ([.subImmA32 0 1 0 5, .subRegA32 0 1 2, .subSpSpT16 127].map Instr.op) =
    [.sub 0 1 (.imm 5), .sub 0 1 (.reg 2), .sub 13 13 (.imm 0x1FC)] := by decide +kernel

/-- Each form of SUBS. -/
theorem witness_SubsWritesDifferenceAndFlags :
    ([.subsImmA32 0 1 0 5, .subsRegA32 0 1 2, .subsImm8T16 0 3, .subsRegT16 0 1 2, .subsImm3T16 0 1 7].map Instr.op) =
    [.subs 0 1 (.imm 5), .subs 0 1 (.reg 2), .subs 0 0 (.imm 3), .subs 0 1 (.reg 2), .subs 0 1 (.imm 7)] := by
  decide +kernel

/-- Each form of MOV. -/
theorem witness_MovCopiesOperand :
    ([.movImmA32 3 4 255, .movRegA32 15 14, .movRegT16 15 14].map Instr.op) =
    [.mov 3 (.imm 0xFF000000), .mov 15 (.reg 14), .mov 15 (.reg 14)] := by decide +kernel

/-- Each form of MOVS. -/
theorem witness_MovsCopiesOperandSetsZN :
    ([.movsImmA32 3 4 255, .movsRegA32 15 14, .movsImm8T16 0 5, .movsRegT16 0 1].map Instr.op) =
    [.movs 3 (.imm 0xFF000000), .movs 15 (.reg 14), .movs 0 (.imm 5), .movs 0 (.reg 1)] := by decide +kernel

/-- Each form of CMP. -/
theorem witness_CmpSetsFlagsOnly :
    ([.cmpImmA32 3 4 255, .cmpRegA32 15 14, .cmpImm8T16 0 5, .cmpRegT16 2 1].map Instr.op) =
    [.cmp 3 (.imm 0xFF000000), .cmp 15 (.reg 14), .cmp 0 (.imm 5), .cmp 2 (.reg 1)] := by decide +kernel

/-- Each form of AND, ORR and EOR. -/
theorem witness_LogicalOpsWriteBits :
    ([.andImmA32 0 1 0 5, .andRegA32 0 1 2, .orrImmA32 0 1 0 5, .orrRegA32 0 1 2, .eorImmA32 0 1 0 5,
      .eorRegA32 0 1 2].map Instr.op) =
    [.and 0 1 (.imm 5), .and 0 1 (.reg 2), .orr 0 1 (.imm 5), .orr 0 1 (.reg 2), .eor 0 1 (.imm 5),
      .eor 0 1 (.reg 2)] := by decide +kernel

/-- Each form of LDR, at the last address in range, and with a negative offset. -/
theorem witness_LdrLoadsLittleEndianWord :
    ([.ldrA32 0 0 1 4, .ldrImm5T16 0 1 31, .ldrSpT16 0 255].map Instr.op) = [.ldr 0 1 (-4), .ldr 0 1 124, .ldr 0 13 1020] ∧
    (effectiveAddress 1 (-4) (with12 0x10000 0)).toNat = 0xFFFC ∧
    (effectiveAddress 1 124 (with12 0xFFFFFF84 0)).toNat = 0 := by decide +kernel

/-- Each form of STR, at the last address in range, on a canonical memory. -/
theorem witness_StrStoresLittleEndianWord :
    ([.strA32 0 0 1 4, .strImm5T16 0 1 31, .strSpT16 0 255].map Instr.op) = [.str 0 1 (-4), .str 0 1 124, .str 0 13 1020] ∧
    (effectiveAddress 1 (-4) (with12 0x10000 0)).toNat = 0xFFFC ∧ (with12 0x10000 0).mem.wf := by decide +kernel

/-- The first address out of range and the last, for a load and a store, as a step. -/
theorem witness_OutOfRangeAccessHalts :
    accesses (Instr.ldrA32 1 0 1 0).op 1 0 ∧ accesses (Instr.strA32 0 0 1 1).op 1 (-1) ∧
    (effectiveAddress 1 0 (with12 0xFFFD 0)).toNat > 0xFFFC ∧ (effectiveAddress 1 (-1) (with12 0 0)).toNat > 0xFFFC ∧
    (readyFor (.ldrA32 1 0 1 0)).runState = .running ∧ (readyFor (.ldrA32 1 0 1 0)).cycles ≠ 100 ∧
    (readyFor (.ldrA32 1 0 1 0)).fetch = some (.ldrA32 1 0 1 0) :=
  ⟨⟨0, Or.inl rfl⟩, ⟨0, Or.inr rfl⟩, by decide +kernel, by decide +kernel, rfl, by decide +kernel, by decide +kernel⟩

/-- A store of a whole word and a load from its address. -/
theorem witness_LoadAfterStoreGivesStoredWord :
    ∃ t, exec (.strA32 1 1 2 0) (with12 0xDEADBEEF 0x100) = .next t ∧ t.runState = .running ∧
      effectiveAddress 2 0 t = effectiveAddress 2 0 (with12 0xDEADBEEF 0x100) ∧ (with12 0xDEADBEEF 0x100).mem.wf :=
  ⟨_, rfl, by decide +kernel, by decide +kernel, by decide +kernel⟩

theorem witness_BranchAddsOffset :
    ([.bA32 0x800000, .bT16 0x3FF].map Instr.op) = [.b (-33554432), .b 2046] := by decide +kernel

/-- The BL form, and a BL record of size 2. -/
theorem witness_BranchLinkWritesPcPlusFour :
    (Instr.blA32 4).op = .bl 16 ∧ (Record.mk .two 0 (.bl 16)).op = .bl 16 := by decide +kernel

theorem witness_BranchExchangeTakesRegister :
    ([.bxA32 14, .bxT16 15].map Instr.op) = [.bx 14, .bx 15] := by decide +kernel

theorem witness_UnknownReportsAndAdvances :
    ([.unknown (.a32 0xE0010092), .unknown (.t16 0xF000)].map Instr.op) = [.unknown, .unknown] := by decide +kernel

/-- A record that goes on, a record that halts, and a table word. -/
theorem witness_StepRunsFetchedInstruction :
    (running.runState = .running ∧ running.cycles ≠ running.maxCycles ∧ running.fetch = some (.movImmA32 0 0 4) ∧
      after (fun t => t.runState) (exec (.movImmA32 0 0 4) running) = some .running) ∧
    ((readyFor (.ldrA32 0 0 1 4)).fetch = some (.ldrA32 0 0 1 4) ∧
      after (fun t => t.runState) (exec (.ldrA32 0 0 1 4) (readyFor (.ldrA32 0 0 1 4))) = some .halted) ∧
    decodeTableWord 16 0x2005 = some (.movsImm8T16 0 5) := by decide +kernel

/-- A pc at the start of each region, inside a word and at the end. -/
theorem witness_StepRunsBytesAtPc :
    decodeImage [0x04, 0x00, 0xA0, 0xE3, 0x05, 0x20] 4 = .ok running.records ∧ running.runState = .running ∧
    running.cycles ≠ running.maxCycles ∧ running.pc.toNat = 0 ∧
    (∀ pc ∈ ([0, 2, 4, 5, 6] : List Nat), (pc < 4 ∧ pc % 4 = 0) ∨ (4 ≤ pc ∧ pc < 6 ∧ (pc - 4) % 2 = 0) ∨
      (pc < 4 ∧ pc % 4 ≠ 0) ∨ (4 ≤ pc ∧ pc < 6 ∧ (pc - 4) % 2 ≠ 0) ∨ 6 ≤ pc) :=
  ⟨rfl, rfl, by decide +kernel, rfl, by decide +kernel⟩

/-- The budget used up, and a pc at the end of the store and inside a record. -/
theorem witness_BudgetThenFetchEndRun :
    (State.reset.runState = .running ∧ ({ State.reset with maxCycles := 0 } : State).cycles = 0) ∧
    (∀ k, k < running.records.length → offsetOf running.records k ≠ ({ running with pc := 6 } : State).pc.toNat) ∧
    (∀ k, k < running.records.length → offsetOf running.records k ≠ ({ running with pc := 2 } : State).pc.toNat) := by
  decide +kernel

/-- Record 1 stands at offset 4. -/
theorem witness_FetchFindsRecordAtOffset :
    ({ running with pc := 4 } : State).fetch = some (.movsImm8T16 0 5) ∧ offsetOf running.records 1 = 4 := by
  decide +kernel

/-- The two fetches on both sides of the boundary and at the end. -/
theorem witness_BoundaryFetchEqualsScan :
    decodeImage [0x04, 0x00, 0xA0, 0xE3, 0x05, 0x20] 4 = .ok running.records ∧
    ([0, 2, 4, 5, 6].map fun pc => boundaryFetch 4 6 running.records pc) =
      [some (.movImmA32 0 0 4), none, some (.movsImm8T16 0 5), none, none] := ⟨rfl, by decide +kernel⟩

theorem witness_HaltedIsTerminal : haltedState.runState = .halted := rfl

/-- A run that ends for each of the three reasons is in `test_runs`; here the branch to itself of either width. -/
theorem witness_EveryRunEndsWithinBudget :
    (Instr.bA32 0).op = .b 0 ∧ (Instr.bT16 0).op = .b 0 ∧ State.reset.pc = 0 := by decide +kernel

theorem inv_running : running.Inv :=
  ⟨by decide +kernel, ⟨by decide +kernel, by decide +kernel, by decide +kernel, by decide +kernel⟩,
    ⟨by decide +kernel, by decide +kernel, by decide +kernel⟩, Nat.le_refl 0⟩

/-- A state that meets the invariant, and its step. -/
theorem witness_StepKeepsInvariant : running.Inv ∧ ∃ t, step running = .next t ∧ t.cycles = 1 :=
  ⟨inv_running, _, rfl, rfl⟩

theorem witness_LoadEstablishesInvariant :
    State.reset.mem.wf ∧
    ∃ t, State.reset.load [0x04, 0x00, 0xA0, 0xE3, 0x05, 0x20] 4 100 = .next t ∧ t.records = running.records :=
  ⟨by decide +kernel, _, rfl, rfl⟩

/-- A running step that goes on, one that halts, and a halted one. -/
theorem witness_CycleCountedIffRunGoesOn :
    after (fun t => (t.runState, t.cycles)) (step running) = some (.running, 1) ∧
    after (fun t => (t.runState, t.cycles)) (step State.reset) = some (.halted, 0) ∧
    after (fun t => (t.runState, t.cycles)) (step haltedState) = some (.halted, 100) := by decide +kernel

/-- A step that reports and a step that does not. -/
theorem witness_DiagnosticsAppendOnly :
    (readyFor (.unknown (.t16 0xF000))).issue = .run (.unknown (.t16 0xF000)) ∧
    after (fun t => t.diagnostics) (step (readyFor (.unknown (.t16 0xF000)))) = some [⟨0, 0xF000⟩] ∧
    after (fun t => t.diagnostics) (step running) = some [] := by decide +kernel

/-- An op that writes no flag, MOVS, and an op that writes flags. -/
theorem witness_OnlyFlagSettersWriteFlags :
    ¬ setsFlags (Instr.addRegA32 0 1 2).op ∧ (Instr.movsImm8T16 0 5).op = .movs 0 (.imm 5) ∧
    setsFlags (Instr.addsRegA32 0 1 2).op ∧ ∃ t, exec (.addRegA32 0 1 2) running = .next t :=
  ⟨id, by decide +kernel, trivial, _, rfl⟩

/-- BL writes `x[14]` and nothing else; CMP and STR write no register. -/
theorem witness_OnlyNamedRegisterWritten :
    writePort (Instr.blA32 4).op ≠ some 13 ∧ writePort (Instr.cmpRegA32 0 1).op = none ∧
    (∃ t, exec (.blA32 4) running = .next t) ∧ ∃ t, exec (.cmpRegA32 0 1) running = .next t :=
  ⟨by decide +kernel, rfl, ⟨_, rfl⟩, _, rfl⟩

/-- Two states that differ in a register no port reads. -/
theorem witness_EffectDependsOnlyOnReadPorts :
    (∀ r, readPortA (Instr.addRegA32 0 1 2).op = some r ∨ readPortB (Instr.addRegA32 0 1 2).op = some r →
      ((running.setReg 5 7).reg r = running.reg r)) ∧ running.setReg 5 7 ≠ running ∧ RunSame running (running.setReg 5 7) ∧
    ∃ t, exec (.addRegA32 0 1 2) running = .next t ∧ t.runState = .running :=
  ⟨by decide +kernel, by decide +kernel, ⟨rfl, rfl, rfl, rfl, rfl⟩, _, rfl, rfl⟩

theorem witness_FlagsNeverInfluence :
    running.setFlags allSet ≠ running ∧ ∃ t, exec (.addRegA32 0 1 2) running = .next t := ⟨by decide +kernel, _, rfl⟩

/-- A record that is no STR, and a step. -/
theorem witness_OnlyStrChangesMemory :
    (∃ t, exec (.ldrA32 1 0 1 0) running = .next t) ∧ (∀ rd rn imm, (Instr.ldrA32 1 0 1 0).op ≠ .str rd rn imm) ∧
    ∃ t, step running = .next t :=
  ⟨⟨_, rfl⟩, fun _ _ _ => by simp [Instr.op], _, rfl⟩

/-- A record that accesses nothing, and a load at the last address in range. -/
theorem witness_EveryRecordCompletesWithNewPc :
    (∀ rn imm, ¬ accesses (Instr.bA32 0).op rn imm) ∧
    (∀ rn imm, accesses (Instr.ldrA32 0 0 1 4).op rn imm →
      (effectiveAddress rn imm (with12 0x10000 0)).toNat ≤ 0xFFFC) := by
  refine ⟨?_, ?_⟩
  · rintro rn imm ⟨rd, h⟩
    simp [Instr.op] at h
  · rintro rn imm ⟨rd, h⟩
    rw [show (Instr.ldrA32 0 0 1 4).op = .ldr 0 1 (-4) by decide +kernel] at h
    obtain ⟨-, rfl, rfl⟩ : (0 : Reg) = rd ∧ (1 : Reg) = rn ∧ (-4 : Int) = imm := by simpa using h
    decide +kernel

/-- A running state whose load halts the run. -/
theorem witness_OnlyLoadStoreHaltsInExecution :
    ∃ t, exec (.ldrA32 0 0 1 4) running = .next t ∧ running.runState = .running ∧ t.runState = .halted :=
  ⟨_, rfl, rfl, rfl⟩

/-- A branch to the second record of a store. -/
theorem witness_WrappedTargetIsExactTarget :
    let s : State := { State.reset with records := [.bA32 1, .movsImm8T16 0 5] }
    s.storeOk ∧ s.fetch = some (.bA32 1) ∧ (Instr.bA32 1).op = .b 4 ∧
    ∃ t, exec (.bA32 1) s = .next t ∧ t.fetch ≠ none :=
  ⟨⟨by decide +kernel, by decide +kernel, by decide +kernel⟩, by decide +kernel, by decide +kernel, _, rfl,
    by decide +kernel⟩

end Sys2Proof.Tests
end

section
/-! ## The effect of a record, field by field

`execRecord` chooses among sixteen rules. Here its next state is written once as a function of the two values
on the read ports (10_state.md R26) and of the old state's other fields, and `execRecord_eq` ties it to the
executor. The rules over all instructions are then facts about one field each. -/

namespace Sys2Proof.Machine

open Sys2Proof.Claims

/-! ### The read ports -/

/-- The value on read port A, 0 where the op does not use the port. -/
def portA (op : Op) (s : State) : Word := (readPortA op).elim 0 s.reg

/-- The immediate that takes the place of a register on read port B, 0 where the op has none. -/
def immediateB : Op → Word
  | .add _ _ (.imm v) | .adds _ _ (.imm v) | .sub _ _ (.imm v) | .subs _ _ (.imm v) | .and _ _ (.imm v)
  | .orr _ _ (.imm v) | .eor _ _ (.imm v) | .mov _ (.imm v) | .movs _ (.imm v) | .cmp _ (.imm v) => v
  | _ => 0

/-- The value on read port B. -/
def portB (op : Op) (s : State) : Word := (readPortB op).elim (immediateB op) s.reg

/-- States that agree on the register of port A have the same value there. -/
theorem portA_congr {op : Op} {s s' : State} (h : ∀ r, readPortA op = some r → s'.reg r = s.reg r) :
    portA op s' = portA op s := by
  cases hp : readPortA op with
  | none => simp [portA, hp]
  | some r => simp [portA, hp, h r hp]

/-- States that agree on the register of port B have the same value there. -/
theorem portB_congr {op : Op} {s s' : State} (h : ∀ r, readPortB op = some r → s'.reg r = s.reg r) :
    portB op s' = portB op s := by
  cases hp : readPortB op with
  | none => simp [portB, hp]
  | some r => simp [portB, hp, h r hp]

/-! ### What each field becomes -/

/-- The ALU's function for an op (40_alu.md R140). -/
def aluFn : Op → AluFn
  | .add _ _ _ | .adds _ _ _ => .add
  | .sub _ _ _ | .subs _ _ _ | .cmp _ _ => .sub
  | .and _ _ _ => .and
  | .orr _ _ _ => .orr
  | .eor _ _ _ => .eor
  | .mov _ _ | .movs _ _ | .ldr _ _ _ | .str _ _ _ | .b _ | .bl _ | .bx _ | .unknown => .pass

/-- The ALU's output on the two port values. -/
def aluOut (op : Op) (s : State) : AluOut := alu (aluFn op) (portA op s) (portB op s)

/-- The address of a load or a store, if the op is one (41_load_store.md R170). -/
def accessAddress (op : Op) (s : State) : Option Word :=
  match op with
  | .ldr _ _ imm | .str _ _ imm => some (portA op s + BitVec.ofInt 32 imm)
  | _ => none

/-- The op is a load or a store out of range (R171, R172). -/
def accessFaults (op : Op) (s : State) : Bool := (accessAddress op s).any fun ea => !inRange ea

@[simp] theorem accessFaults_ldr (rd rn : Reg) (imm : Int) (s : State) :
    accessFaults (.ldr rd rn imm) s = !inRange (effectiveAddress rn imm s) := rfl

@[simp] theorem accessFaults_str (rd rn : Reg) (imm : Int) (s : State) :
    accessFaults (.str rd rn imm) s = !inRange (effectiveAddress rn imm s) := rfl

/-- Only an access faults, and it faults by its effective address. -/
theorem accessFaults_iff (op : Op) (s : State) :
    accessFaults op s = true ↔
      ∃ rn imm, accesses op rn imm ∧ Config.lastWordAddress < (effectiveAddress rn imm s).toNat := by
  cases op with
  | ldr rd rn imm => simp [accesses, inRange]
  | str rd rn imm => simp [accesses, inRange]
  | _ => simp [accesses, accessFaults, accessAddress]

/-- The value for the register on the write port. -/
def writeData (op : Op) (s : State) : Word :=
  match op with
  | .ldr _ _ imm => s.load32 (portA op s + BitVec.ofInt 32 imm)
  | .bl _ => s.pc + Config.linkDistance
  | _ => (aluOut op s).result

/-- The registers after the record. -/
def newRegs (op : Op) (s : State) : Vector Word 16 :=
  match writePort op with
  | some rd => s.regs.set rd (writeData op s)
  | none => s.regs

/-- The flags after the record. -/
def newFlags (op : Op) (s : State) : Flags :=
  match op with
  | .adds _ _ _ | .subs _ _ _ | .movs _ _ | .cmp _ _ => flagUnit (aluOut op s) s.flags
  | _ => s.flags

/-- The memory after the record. -/
def newMem (op : Op) (s : State) : Memory :=
  match op with
  | .str _ _ imm => s.mem.writeWord (portA op s + BitVec.ofInt 32 imm).toNat (portB op s)
  | _ => s.mem

/-- The pc after the record (10_state.md R29). -/
def nextPc (r : Record) (s : State) : Word :=
  match r.op with
  | .b offset | .bl offset => s.branchTarget offset
  | .bx _ => portA r.op s
  | _ => s.pc + BitVec.ofNat 32 r.size.bytes

/-- The reports after the record (42_branch.md R183). -/
def newReports (r : Record) (s : State) : List Diagnostic :=
  match r.op with
  | .unknown => s.diagnostics ++ [{ pc := s.pc, raw := r.raw }]
  | _ => s.diagnostics

/-- The state after a record that completes. -/
def completed (r : Record) (s : State) : State :=
  { s with
    regs := newRegs r.op s
    flags := newFlags r.op s
    mem := newMem r.op s
    pc := nextPc r s
    diagnostics := newReports r s }

section
variable (r : Record) (s : State)

@[simp] theorem flags_completed : (completed r s).flags = newFlags r.op s := rfl
@[simp] theorem mem_completed : (completed r s).mem = newMem r.op s := rfl
@[simp] theorem pc_completed : (completed r s).pc = nextPc r s := rfl
@[simp] theorem runState_completed : (completed r s).runState = s.runState := rfl
@[simp] theorem haltReason_completed : (completed r s).haltReason = s.haltReason := rfl
@[simp] theorem cycles_completed : (completed r s).cycles = s.cycles := rfl
@[simp] theorem maxCycles_completed : (completed r s).maxCycles = s.maxCycles := rfl
@[simp] theorem diagnostics_completed : (completed r s).diagnostics = newReports r s := rfl
@[simp] theorem records_completed : (completed r s).records = s.records := rfl

/-- A register after the record: the written one has the write port's value, and the others are kept. -/
@[simp] theorem reg_completed (q : Reg) :
    (completed r s).reg q = if writePort r.op = some q then writeData r.op s else s.reg q := by
  cases hw : writePort r.op with
  | none => simp [completed, newRegs, State.reg, hw]
  | some rd => simpa [completed, newRegs, State.setReg, State.reg, hw] using s.reg_setReg rd q (writeData r.op s)

end

/-! ### The executor -/

@[simp] theorem op_record (i : Instr) : i.record.op = i.op := rfl

@[simp] theorem size_record (i : Instr) : i.record.size = i.size := rfl

/-- The executor on records: the halt of an access out of range, or the completed record. -/
theorem execRecord_eq (r : Record) (s : State) :
    execRecord r s =
      .next (if accessFaults r.op s then s.halt .memoryViolation else completed r s) := by
  obtain ⟨size, raw, op⟩ := r
  cases op with
  | ldr rd rn imm =>
    obtain ⟨hr, he⟩ | ⟨hr, he⟩ := opLdr_cases size rd rn imm s
    · rw [if_neg (by simp [hr])]; exact he
    · rw [if_pos (by simp [hr])]; exact he
  | str rd rn imm =>
    obtain ⟨hr, he⟩ | ⟨hr, he⟩ := opStr_cases size rd rn imm s
    · rw [if_neg (by simp [hr])]; exact he
    · rw [if_pos (by simp [hr])]; exact he
  | add _ _ src2 | adds _ _ src2 | sub _ _ src2 | subs _ _ src2 | and _ _ src2 | orr _ _ src2 | eor _ _ src2
  | mov _ src2 | movs _ src2 | cmp _ src2 => cases src2 <;> rfl
  | b | bl | bx | unknown => rfl

/-- Each form's own meaning is the rule of its record's op (43_sequencer.md R194). -/
theorem exec_eq_execRecord (i : Instr) (s : State) : exec i s = execRecord i.record s := by
  cases i <;> rfl

/-- Executing an instruction: the halt of an access out of range and nothing else, or the completed record. -/
theorem exec_cases (i : Instr) (s : State) :
    (accessFaults i.op s = true ∧ exec i s = .next (s.halt .memoryViolation)) ∨
    (accessFaults i.op s = false ∧ exec i s = .next (completed i.record s)) := by
  rw [exec_eq_execRecord, execRecord_eq, op_record]
  cases accessFaults i.op s with
  | true => exact .inl ⟨rfl, rfl⟩
  | false => exact .inr ⟨rfl, rfl⟩

/-- The same for a next state that is given. -/
theorem exec_next {i : Instr} {s t : State} (h : exec i s = .next t) :
    (accessFaults i.op s = true ∧ t = s.halt .memoryViolation) ∨
    (accessFaults i.op s = false ∧ t = completed i.record s) := by
  obtain ⟨hf, he⟩ | ⟨hf, he⟩ := exec_cases i s
  · exact .inl ⟨hf, by simpa [he] using h.symm⟩
  · exact .inr ⟨hf, by simpa [he] using h.symm⟩

end Sys2Proof.Machine
end

section
/-! ## The rules over all instructions (10_state.md R22 to R36) -/

namespace Sys2Proof.Machine

open Sys2Proof.Claims

/-- An op outside the table of R35 leaves the flags. -/
theorem newFlags_of_not_setsFlags {op : Op} (h : ¬ setsFlags op) (s : State) : newFlags op s = s.flags := by
  cases op with
  | adds | subs | movs | cmp => exact absurd trivial h
  | _ => rfl

/-- Settles O52: the flags after a record are `newFlags`, which is the flag unit for the four ops alone, and PASS gives
it no carry and no overflow. -/
theorem onlyFlagSettersWriteFlags : Obligations.OnlyFlagSettersWriteFlags := by
  intro i s t h
  obtain ⟨-, rfl⟩ | ⟨-, rfl⟩ := exec_next h
  · exact ⟨fun _ => rfl, fun _ _ _ => ⟨rfl, rfl⟩⟩
  · refine ⟨fun hf => newFlags_of_not_setsFlags hf s, fun rd src2 hop => ?_⟩
    rw [flags_completed, op_record, hop]
    exact ⟨rfl, rfl⟩

/-- Settles O53: the one register that a completed record sets is the one on the write port. -/
theorem onlyNamedRegisterWritten : Obligations.OnlyNamedRegisterWritten := by
  intro i s t h r hr
  obtain ⟨-, rfl⟩ | ⟨-, rfl⟩ := exec_next h
  · rfl
  · simp [hr]

/-! ### Two runs of one record -/

/-- The states agree on all that a record reads: the port values and every field but the registers. -/
structure SameInputs (op : Op) (s s' : State) : Prop where
  portA : portA op s' = portA op s
  portB : portB op s' = portB op s
  flags : s'.flags = s.flags
  mem : s'.mem = s.mem
  pc : s'.pc = s.pc
  diagnostics : s'.diagnostics = s.diagnostics

section
variable {op : Op} {r : Record} {s s' : State}

theorem aluOut_congr (h : SameInputs op s s') : aluOut op s' = aluOut op s := by
  rw [aluOut, h.portA, h.portB, aluOut]

theorem accessFaults_congr (h : SameInputs op s s') : accessFaults op s' = accessFaults op s := by
  simp only [accessFaults, accessAddress, h.portA]

theorem writeData_congr (h : SameInputs op s s') : writeData op s' = writeData op s := by
  simp only [writeData, State.load32, aluOut_congr h, h.portA, h.mem, h.pc]

theorem newFlags_congr (h : SameInputs op s s') : newFlags op s' = newFlags op s := by
  simp only [newFlags, aluOut_congr h, h.flags]

theorem newMem_congr (h : SameInputs op s s') : newMem op s' = newMem op s := by
  simp only [newMem, h.portA, h.portB, h.mem]

theorem nextPc_congr (h : SameInputs r.op s s') : nextPc r s' = nextPc r s := by
  simp only [nextPc, State.branchTarget, h.portA, h.pc]

theorem newReports_congr (h : SameInputs r.op s s') : newReports r s' = newReports r s := by
  simp only [newReports, h.diagnostics, h.pc]

end

/-- Settles O54: every field of the next state is a function of the port values and of the fields on which the two
states agree. -/
theorem effectDependsOnlyOnReadPorts : Obligations.EffectDependsOnlyOnReadPorts := by
  intro i s s' t hflags hmem hpc hdiag hrun hports h
  have hin : SameInputs i.op s s' :=
    { portA := portA_congr fun r hr => hports r (.inl hr)
      portB := portB_congr fun r hr => hports r (.inr hr)
      flags := hflags, mem := hmem, pc := hpc, diagnostics := hdiag }
  obtain ⟨hrs, hhr, hcyc, hmax, hrec⟩ := hrun
  have hf := accessFaults_congr hin
  obtain ⟨hs, rfl⟩ | ⟨hs, rfl⟩ := exec_next h
  · obtain ⟨-, he⟩ | ⟨hs', -⟩ := exec_cases i s'
    · exact ⟨_, he, hflags, hmem, hpc, hdiag, ⟨rfl, rfl, hcyc, hmax, hrec⟩, fun hr => by simp at hr⟩
    · simp [hf, hs] at hs'
  · obtain ⟨hs', -⟩ | ⟨-, he⟩ := exec_cases i s'
    · simp [hf, hs] at hs'
    · refine ⟨_, he, newFlags_congr hin, newMem_congr hin, nextPc_congr hin, newReports_congr hin,
        ⟨hrs, hhr, hcyc, hmax, hrec⟩, fun _ r hr => ?_⟩
      simp [hr, writeData_congr hin]

/-- No field but the flags depends on the flags. -/
theorem completed_setFlags (r : Record) (s : State) (f : Flags) :
    (completed r (s.setFlags f)).setFlags (completed r s).flags = completed r s := rfl

/-- Settles O55: the halt and the completed record read no flag but to give the flags. -/
theorem flagsNeverInfluence : Obligations.FlagsNeverInfluence := by
  intro i s t f h
  have hf : accessFaults i.op (s.setFlags f) = accessFaults i.op s := rfl
  obtain ⟨hs, rfl⟩ | ⟨hs, rfl⟩ := exec_next h
  · obtain ⟨-, he⟩ | ⟨hs', -⟩ := exec_cases i (s.setFlags f)
    · exact ⟨_, he, rfl⟩
    · simp [hf, hs] at hs'
  · obtain ⟨hs', -⟩ | ⟨-, he⟩ := exec_cases i (s.setFlags f)
    · simp [hf, hs] at hs'
    · exact ⟨_, he, completed_setFlags i.record s f⟩

/-! ### Completion and the new pc -/

/-- An address past a record, in the arithmetic of R29. -/
theorem add_ofNat_eq_ofNat_toNat_add (a : Word) (n : Nat) :
    a + BitVec.ofNat 32 n = BitVec.ofNat 32 (a.toNat + n) := by
  rw [BitVec.ofNat_add, BitVec.ofNat_toNat, BitVec.setWidth_eq]

/-- A branch target, in the arithmetic of R180. -/
theorem branchTarget_eq_ofInt (s : State) (offset : Int) :
    s.branchTarget offset = BitVec.ofInt 32 (s.pc.toNat + offset) := by
  rw [State.branchTarget, BitVec.ofInt_add, BitVec.ofInt_natCast, BitVec.ofNat_toNat, BitVec.setWidth_eq]

/-- The pc after a record is the one of the table of R29. -/
theorem nextPc_record (i : Instr) (s : State) : nextPc i.record s = newPc i s := by
  cases h : i.op with
  | b offset | bl offset => simp only [nextPc, newPc, op_record, h, branchTarget_eq_ofInt]
  | bx rm => simp only [nextPc, newPc, op_record, h]; rfl
  | _ => simp only [nextPc, newPc, op_record, size_record, h, add_ofNat_eq_ofNat_toNat_add]

/-- Settles O57: without an access out of range, the record completes with the table's pc. -/
theorem everyRecordCompletesWithNewPc : Obligations.EveryRecordCompletesWithNewPc := by
  intro i s hin
  obtain ⟨hf, -⟩ | ⟨-, he⟩ := exec_cases i s
  · obtain ⟨rn, imm, hacc, hgt⟩ := (accessFaults_iff i.op s).1 hf
    exact absurd (hin rn imm hacc) (Nat.not_le.2 hgt)
  · exact ⟨_, he, nextPc_record i s, rfl, rfl⟩

end Sys2Proof.Machine
end

section
/-! ## One step, and the invariant of a run -/

namespace Sys2Proof.Machine

open Sys2Proof.Claims

/-- What one cycle of the sequencer can do (43_sequencer.md R192, R193, R195; 41_load_store.md R172). -/
inductive StepCase (s : State) : State → Prop where
  /-- The machine is HALTED and stays as it is. -/
  | stay (hr : s.runState = .halted) (hi : s.issue = .stay) : StepCase s s
  /-- The budget is used up. -/
  | budget (hr : s.runState = .running) (hc : s.cycles = s.maxCycles) (hi : s.issue = .halt .boundReached) :
      StepCase s (s.halt .boundReached)
  /-- No record starts at the pc. -/
  | outside (hr : s.runState = .running) (hc : s.cycles ≠ s.maxCycles) (hi : s.issue = .halt .outOfBounds) :
      StepCase s (s.halt .outOfBounds)
  /-- The record is a load or a store out of range. -/
  | violation (i : Instr) (hr : s.runState = .running) (hc : s.cycles ≠ s.maxCycles) (hi : s.issue = .run i)
      (hf : accessFaults i.op s = true) : StepCase s (s.halt .memoryViolation)
  /-- The record completes, and one cycle is counted. -/
  | run (i : Instr) (hr : s.runState = .running) (hc : s.cycles ≠ s.maxCycles) (hi : s.issue = .run i)
      (hf : accessFaults i.op s = false) :
      StepCase s { completed i.record s with cycles := s.cycles + 1 }

/-- Every step is one of the five cases. -/
theorem step_cases {s t : State} (h : step s = .next t) : StepCase s t := by
  obtain ⟨hr, hi⟩ | ⟨hr, hc, hi⟩ | ⟨hr, hc, -, hi⟩ | ⟨i, hr, hc, -, hi⟩ := issue_cases s
  · obtain rfl : s = t := by simpa [step, hi] using h
    exact .stay hr hi
  · obtain rfl : s.halt .boundReached = t := by simpa [step, hi] using h
    exact .budget hr hc hi
  · obtain rfl : s.halt .outOfBounds = t := by simpa [step, hi] using h
    exact .outside hr hc hi
  · obtain ⟨u, hu, rfl⟩ : ∃ u, exec i s = .next u ∧ t = u.complete :=
      completeCycle_eq_next (by simpa [step, hi] using h)
    obtain ⟨hf, rfl⟩ | ⟨hf, rfl⟩ := exec_next hu
    · rw [State.complete_halted rfl]
      exact .violation i hr hc hi hf
    · rw [State.complete_running (by simpa using hr)]
      exact .run i hr hc hi hf

/-! ### The parts of the invariant -/

/-- A record that completes keeps the memory in canonical form. -/
theorem newMem_wf {op : Op} {s : State} (hm : s.mem.wf) (hf : accessFaults op s = false) :
    Memory.wf (newMem op s) := by
  cases op with
  | str rd rn imm =>
    have hin : inRange (effectiveAddress rn imm s) = true := by simpa using hf
    exact Memory.wf_writeWord hm ((inRange_iff _).1 hin) _
  | _ => exact hm

/-- A record appends at most one report. -/
theorem length_newReports_le (r : Record) (s : State) :
    (newReports r s).length ≤ s.diagnostics.length + 1 := by
  unfold newReports
  split
  · simp
  · exact Nat.le_succ _

/-- A RUNNING machine is halted with a legal status by each of the three reasons, under its own condition on the
counter (43_sequencer.md R196). -/
theorem statusOk_halt {s : State} {reason : HaltReason} (hs : s.statusOk) (hn : reason ≠ .none)
    (hb : reason = .boundReached → s.cycles = s.maxCycles)
    (hl : reason ≠ .boundReached → s.cycles ≠ s.maxCycles) : (s.halt reason).statusOk := by
  obtain ⟨-, hle, -, -⟩ := hs
  refine ⟨by simp [hn], hle, hb, fun h => Nat.lt_of_le_of_ne hle (hl ?_)⟩
  obtain rfl | rfl : reason = .outOfBounds ∨ reason = .memoryViolation := h
  · decide
  · decide

/-- A halt keeps the parts of the invariant that do not speak of the status. -/
theorem inv_halt {s : State} {reason : HaltReason} (hs : s.Inv) (hst : (s.halt reason).statusOk) :
    (s.halt reason).Inv := by
  obtain ⟨hm, -, hstore, hrep⟩ := hs
  exact ⟨hm, hst, hstore, hrep⟩

/-- A completed record within the budget keeps the invariant. -/
theorem inv_completed {s : State} {r : Record} (hs : s.Inv) (hr : s.runState = .running)
    (hc : s.cycles ≠ s.maxCycles) (hf : accessFaults r.op s = false) :
    State.Inv { completed r s with cycles := s.cycles + 1 } := by
  obtain ⟨hm, ⟨hiff, hle, -, -⟩, hstore, hrep⟩ := hs
  have hnone : s.haltReason = .none := hiff.1 hr
  have hlt : s.cycles < s.maxCycles := Nat.lt_of_le_of_ne hle hc
  refine ⟨newMem_wf hm hf, ⟨hiff, hlt, ?_, ?_⟩, hstore, ?_⟩
  · simp [hnone]
  · simp [hnone]
  · exact (length_newReports_le r s).trans (Nat.succ_le_succ hrep)

/-- Settles O47: each of the five cases of a step keeps the four parts of the invariant. -/
theorem stepKeepsInvariant : Obligations.StepKeepsInvariant := by
  intro s t hs h
  have ⟨_, hst, _, _⟩ := hs
  cases step_cases h with
  | stay => exact hs
  | budget _ hc => exact inv_halt hs (statusOk_halt hst (by decide) (fun _ => hc) (by simp))
  | outside _ hc => exact inv_halt hs (statusOk_halt hst (by decide) (by simp) fun _ => hc)
  | violation _ _ hc => exact inv_halt hs (statusOk_halt hst (by decide) (by simp) fun _ => hc)
  | run _ hr hc _ hf => exact inv_completed hs hr hc hf

/-! ### The counter and the reports -/

/-- Settles O50: a cycle is counted in the one case of a step that stays RUNNING. -/
theorem cycleCountedIffRunGoesOn : Obligations.CycleCountedIffRunGoesOn := by
  intro s t h
  cases step_cases h with
  | stay hr => exact ⟨fun hr' => by simp [hr] at hr', fun _ => ⟨rfl, rfl, hr⟩, rfl⟩
  | budget hr | outside hr | violation _ hr =>
    exact ⟨fun _ => .inr ⟨rfl, rfl⟩, fun hr' => by simp [hr] at hr', rfl⟩
  | run _ hr => exact ⟨fun _ => .inl ⟨hr, rfl⟩, fun hr' => by simp [hr] at hr', rfl⟩

/-- Of all instructions, UNKNOWN alone has the op of an UNKNOWN record. -/
theorem op_eq_unknown_iff (i : Instr) : i.op = .unknown ↔ ∃ u, i = .unknown u := by
  cases i with
  | unknown u => exact ⟨fun _ => ⟨u, rfl⟩, fun _ => rfl⟩
  | _ => simp [Instr.op]

/-- An UNKNOWN record does not halt the run. -/
theorem accessFaults_unknown (s : State) : accessFaults .unknown s = false := rfl

/-- A record that is no UNKNOWN reports nothing. -/
theorem newReports_of_ne_unknown {r : Record} (h : r.op ≠ .unknown) (s : State) :
    newReports r s = s.diagnostics := by
  unfold newReports
  split
  · contradiction
  · rfl

/-- Settles O51: the one case of a step that reports is the completion of an UNKNOWN record. -/
theorem diagnosticsAppendOnly : Obligations.DiagnosticsAppendOnly := by
  intro s t h
  cases step_cases h with
  | stay _ hi | budget _ _ hi | outside _ _ hi => exact .inl ⟨rfl, by simp [hi]⟩
  | violation i _ _ hi hf =>
    refine .inl ⟨rfl, ?_⟩
    rintro ⟨u, hu⟩
    obtain rfl : i = .unknown u := by simpa [hi] using hu
    exact absurd hf (by simp [Instr.op, accessFaults_unknown])
  | run i _ _ hi =>
    by_cases hop : i.op = .unknown
    · obtain ⟨u, rfl⟩ := (op_eq_unknown_iff i).1 hop
      exact .inr ⟨u, hi, rfl⟩
    · refine .inl ⟨newReports_of_ne_unknown hop s, ?_⟩
      rintro ⟨u, hu⟩
      obtain rfl : i = .unknown u := by simpa [hi] using hu
      exact hop rfl

end Sys2Proof.Machine
end

section
/-! ## The decoder keeps every bit, and loading an image -/

namespace Sys2Proof

/-! ### A unit is its row's fixed bits and its fields (30_encoding.md R75, R76) -/

/-- The mask of a field of `n` bits at `lo`. -/
def fieldMask (w : Nat) (field : Nat × Nat) : BitVec w := place w (BitVec.allOnes field.2) field.1

/-- A row's fixed bits with the fields of a unit put back at their places. A field is its lowest bit and its
width. -/
def Row.fill {w : Nat} (r : Row w) (u : BitVec w) (fields : List (Nat × Nat)) : BitVec w :=
  fields.foldl (fun acc field => acc ||| place w (u.extractLsb' field.1 field.2) field.1) r.pattern

/-- The bits that a row and its fields cover. -/
def Row.covered {w : Nat} (r : Row w) (fields : List (Nat × Nat)) : BitVec w :=
  fields.foldl (fun acc field => acc ||| fieldMask w field) r.mask

/-- A field cut out and put back is the unit under the field's mask. -/
theorem place_extract_eq_and {w : Nat} (u : BitVec w) (field : Nat × Nat) :
    place w (u.extractLsb' field.1 field.2) field.1 = u &&& fieldMask w field := by
  apply BitVec.eq_of_getLsbD_eq
  intro i hi
  rw [getLsbD_place_extract, BitVec.getLsbD_and, fieldMask, getLsbD_place, BitVec.getLsbD_allOnes]
  by_cases hlo : field.1 ≤ i
  · have hn : i - field.1 < field.2 ↔ i < field.1 + field.2 := by omega
    simp only [hi, hlo, hn, decide_true, Bool.true_and]
    exact Bool.and_comm _ _
  · simp [hlo]

/-- Filling a row is masking the unit with the covered bits. -/
theorem Row.fill_eq_and_covered {w : Nat} {r : Row w} {u : BitVec w} (hf : r.fits u = true)
    (fields : List (Nat × Nat)) : r.fill u fields = u &&& r.covered fields := by
  have hfold : ∀ m : BitVec w,
      fields.foldl (fun acc field => acc ||| place w (u.extractLsb' field.1 field.2) field.1) (u &&& m) =
        u &&& fields.foldl (fun acc field => acc ||| fieldMask w field) m := by
    induction fields with
    | nil => exact fun _ => rfl
    | cons field rest ih =>
      intro m
      rw [List.foldl_cons, List.foldl_cons, place_extract_eq_and, ← BitVec.and_or_distrib_left, ih]
  have hp : u &&& r.mask = r.pattern := by simpa [Row.fits] using hf
  rw [Row.fill, ← hp, hfold, Row.covered]

/-- A unit that fits a row is the row filled with its fields, where row and fields cover every bit. -/
theorem Row.fill_eq {w : Nat} {r : Row w} {u : BitVec w} (hf : r.fits u = true) (fields : List (Nat × Nat))
    (hc : r.covered fields = BitVec.allOnes w) : r.fill u fields = u := by
  rw [Row.fill_eq_and_covered hf, hc, BitVec.and_allOnes]

/-! ### Encoding a decoded unit -/

/-- Fields of an A32 form with Rn, Rd and an immediate (R79). -/
def immFields : List (Nat × Nat) := [(16, 4), (12, 4), (8, 4), (0, 8)]

/-- Fields of an A32 form with Rn, Rd and Rm (R80). -/
def regFields : List (Nat × Nat) := [(16, 4), (12, 4), (0, 4)]

/-- Fields of an A32 load or store: U, Rn, Rd and the magnitude (R83). -/
def accessFields : List (Nat × Nat) := [(23, 1), (16, 4), (12, 4), (0, 12)]

/-- Fields of a T16 form with a 3-bit register and 8 bits (R101 to R104, R116 to R118). -/
def reg8Fields : List (Nat × Nat) := [(8, 3), (0, 8)]

/-- Fields of a T16 form with three 3-bit fields (R105 to R108). -/
def triple3Fields : List (Nat × Nat) := [(6, 3), (3, 3), (0, 3)]

/-- Fields of a T16 form with a split register field (R111, R112). -/
def splitFields : List (Nat × Nat) := [(7, 1), (3, 4), (0, 3)]

/-- An A32 word is what a filled row encodes. -/
theorem a32_fill {r : Row 32} {w : Word} (hf : r.fits w = true) (fields : List (Nat × Nat))
    (hc : r.covered fields = BitVec.allOnes 32) : CodeUnit.a32 (r.fill w fields) = .a32 w :=
  congrArg CodeUnit.a32 (Row.fill_eq hf fields hc)

/-- A T16 halfword is what a filled row encodes. -/
theorem t16_fill {r : Row 16} {h : Half} (hf : r.fits h = true) (fields : List (Nat × Nat))
    (hc : r.covered fields = BitVec.allOnes 16) : CodeUnit.t16 (r.fill h fields) = .t16 h :=
  congrArg CodeUnit.t16 (Row.fill_eq hf fields hc)

theorem encode_decode32 (w : Word) : encode (decode32 w) = .a32 w := by
  apply decode32_elim (P := fun i => encode i = .a32 w) w
  case h0 | h2 | h4 | h6 | h8 | h10 | h12 => exact fun hf => a32_fill hf immFields (by decide)
  case h1 | h3 | h5 | h7 | h9 | h11 | h13 => exact fun hf => a32_fill hf regFields (by decide)
  case h14 | h16 => exact fun hf => a32_fill hf [(12, 4), (8, 4), (0, 8)] (by decide)
  case h15 | h17 => exact fun hf => a32_fill hf [(12, 4), (0, 4)] (by decide)
  case h18 => exact fun hf => a32_fill hf [(16, 4), (8, 4), (0, 8)] (by decide)
  case h19 => exact fun hf => a32_fill hf [(16, 4), (0, 4)] (by decide)
  case h20 | h21 => exact fun hf => a32_fill hf accessFields (by decide)
  case h22 | h23 => exact fun hf => a32_fill hf [(0, 24)] (by decide)
  case h24 => exact fun hf => a32_fill hf [(0, 4)] (by decide)
  case hu => exact fun _ => rfl

theorem encode_decode16 (h : Half) : encode (decode16 h) = .t16 h := by
  apply decode16_elim (P := fun i => encode i = .t16 h) h
  case h0 | h1 | h2 | h3 | h15 | h16 | h17 => exact fun hf => t16_fill hf reg8Fields (by decide)
  case h4 | h5 | h6 | h7 => exact fun hf => t16_fill hf triple3Fields (by decide)
  case h8 | h9 => exact fun hf => t16_fill hf [(3, 3), (0, 3)] (by decide)
  case h10 | h11 =>
    intro hf
    rw [encode, join4_high, join4_low]
    exact t16_fill hf splitFields (by decide)
  case h12 => exact fun hf => t16_fill hf [(3, 4)] (by decide)
  case h13 | h14 => exact fun hf => t16_fill hf [(6, 5), (3, 3), (0, 3)] (by decide)
  case h18 | h19 => exact fun hf => t16_fill hf [(0, 7)] (by decide)
  case h20 => exact fun hf => t16_fill hf [(0, 11)] (by decide)
  case hu => exact fun _ => rfl

/-! ### A decoded unit is well-formed -/

theorem wellFormed_decode32 (w : Word) : (decode32 w).wellFormed = true := by
  apply decode32_elim (P := fun i => i.wellFormed = true) w
  case hu => exact fun hn => List.all_eq_true.2 fun r hr => by simp [hn r hr]
  all_goals exact fun _ => rfl

theorem wellFormed_decode16 (h : Half) : (decode16 h).wellFormed = true := by
  apply decode16_elim (P := fun i => i.wellFormed = true) h
  case hu => exact fun hn => List.all_eq_true.2 fun r hr => by simp [hn r hr]
  all_goals exact fun _ => rfl

/-- Settles O3: each row's mask and fields cover the unit, so nothing is lost, and UNKNOWN keeps the whole unit. -/
theorem encodeDecodeKeepsEveryBit : Obligations.EncodeDecodeKeepsEveryBit := by
  intro u
  cases u with
  | a32 w => exact ⟨wellFormed_decode32 w, encode_decode32 w⟩
  | t16 h => exact ⟨wellFormed_decode16 h, encode_decode16 h⟩

end Sys2Proof

namespace Sys2Proof.Machine

/-! ### The two regions of an image (R72, R73, R74) -/

@[simp] theorem bytesOf_nil : bytesOf [] = 0 := rfl

theorem bytesOf_append (rs rs' : List Instr) : bytesOf (rs ++ rs') = bytesOf rs + bytesOf rs' := by
  simp [bytesOf]

/-- Every record of the A32 region is a decoded word. -/
theorem exists_decode32_of_mem_decodeWords {buf : List Byte} {i : Instr} (h : i ∈ decodeWords buf) :
    ∃ w, i = decode32 w := by
  induction buf using decodeWords.induct with
  | case1 b0 b1 b2 b3 rest ih =>
    rw [decodeWords, List.mem_cons] at h
    obtain rfl | h := h
    · exact ⟨_, rfl⟩
    · exact ih h
  | case2 buf hshort => simp [decodeWords] at h

/-- Every record of the T16 region is a decoded halfword. -/
theorem exists_decode16_of_mem_decodeHalves {buf : List Byte} {i : Instr} (h : i ∈ decodeHalves buf) :
    ∃ x, i = decode16 x := by
  induction buf using decodeHalves.induct with
  | case1 b0 b1 rest ih =>
    rw [decodeHalves, List.mem_cons] at h
    obtain rfl | h := h
    · exact ⟨_, rfl⟩
    · exact ih h
  | case2 buf hshort => simp [decodeHalves] at h

theorem bytesOf_decodeWords_le (buf : List Byte) : bytesOf (decodeWords buf) ≤ buf.length := by
  induction buf using decodeWords.induct with
  | case1 b0 b1 b2 b3 rest ih =>
    simp only [decodeWords, bytesOf_cons, decode32_size, Size.bytes, List.length_cons]
    omega
  | case2 buf hshort => simp [decodeWords]

theorem bytesOf_decodeHalves_le (buf : List Byte) : bytesOf (decodeHalves buf) ≤ buf.length := by
  induction buf using decodeHalves.induct with
  | case1 b0 b1 rest ih =>
    simp only [decodeHalves, bytesOf_cons, decode16_size, Size.bytes, List.length_cons]
    omega
  | case2 buf hshort => simp [decodeHalves]

/-- When the decoder answers records, they are those of the two regions, and the image is not too large (R71). -/
theorem decodeImage_ok {buf : List Byte} {a32Bytes : Nat} {rs : List Instr}
    (h : decodeImage buf a32Bytes = .ok rs) :
    buf.length ≤ Config.maxImageBytes ∧
      rs = decodeWords (buf.take a32Bytes) ++ decodeHalves (buf.drop a32Bytes) := by
  unfold decodeImage at h
  split at h
  · cases h
  · split at h
    · cases h
    · rename_i hsize
      exact ⟨Nat.not_lt.1 hsize, by simpa using h.symm⟩

/-- The A32 records stand before the T16 records (R74). -/
theorem pairwise_size_regions (bufA bufT : List Byte) :
    (decodeWords bufA ++ decodeHalves bufT).Pairwise fun i j => i.size = .two → j.size = .two := by
  have htwo : ∀ j ∈ decodeHalves bufT, j.size = .two := fun j hj => by
    obtain ⟨x, rfl⟩ := exists_decode16_of_mem_decodeHalves hj
    exact decode16_size x
  have hfour : ∀ i ∈ decodeWords bufA, i.size ≠ .two := fun i hi => by
    obtain ⟨w, rfl⟩ := exists_decode32_of_mem_decodeWords hi
    simp [decode32_size]
  refine List.pairwise_append.2 ⟨?_, ?_, fun _ _ j hj _ => htwo j hj⟩
  · exact List.pairwise_of_forall_mem_list fun i hi _ _ h => absurd h (hfour i hi)
  · exact List.pairwise_of_forall_mem_list fun _ _ j hj _ => htwo j hj

/-- A state with a decoded image in its store. -/
theorem storeOk_of_decodeImage {s : State} {buf : List Byte} {a32Bytes : Nat}
    (h : decodeImage buf a32Bytes = .ok s.records) : s.storeOk := by
  obtain ⟨hlen, hrs⟩ := decodeImage_ok h
  rw [State.storeOk, hrs]
  refine ⟨fun i hi => ?_, ?_, pairwise_size_regions _ _⟩
  · obtain hi | hi := List.mem_append.1 hi
    · obtain ⟨w, rfl⟩ := exists_decode32_of_mem_decodeWords hi
      exact wellFormed_decode32 w
    · obtain ⟨x, rfl⟩ := exists_decode16_of_mem_decodeHalves hi
      exact wellFormed_decode16 x
  · calc bytesOf (decodeWords (buf.take a32Bytes) ++ decodeHalves (buf.drop a32Bytes))
        ≤ (buf.take a32Bytes).length + (buf.drop a32Bytes).length := by
          rw [bytesOf_append]
          exact Nat.add_le_add (bytesOf_decodeWords_le _) (bytesOf_decodeHalves_le _)
      _ = buf.length := by rw [← List.length_append, List.take_append_drop]
      _ ≤ Config.maxImageBytes := hlen

/-- Settles O49: run entry gives a legal status with no reports, and the decoder gives a legal store. -/
theorem loadEstablishesInvariant : Obligations.LoadEstablishesInvariant := by
  intro s t buf a32Bytes maxCycles hm h
  obtain ⟨rs, hd, hl⟩ | ⟨-, hl⟩ | ⟨-, hl⟩ := load_cases s buf a32Bytes maxCycles
  · obtain rfl : s.enterRun rs maxCycles = t := by simpa [hl] using h
    have hstatus : (s.enterRun rs maxCycles).statusOk := by simp [State.statusOk]
    exact ⟨hm, hstatus, storeOk_of_decodeImage hd, Nat.zero_le _⟩
  · simp [hl] at h
  · simp [hl] at h

/-! ### Branch targets inside the store (10_state.md R31) -/

/-- No branch reaches farther than 2^25 bytes back or forward (R84). -/
theorem branch_offset_bounds {i : Instr} {offset : Int} (h : i.op = .b offset ∨ i.op = .bl offset) :
    -2 ^ 25 ≤ offset ∧ offset ≤ 2 ^ 25 := by
  have ha32 (imm24 : BitVec 24) : -2 ^ 25 ≤ branchOffsetA32 imm24 ∧ branchOffsetA32 imm24 ≤ 2 ^ 25 :=
    ⟨BitVec.le_toInt _, (BitVec.toInt_lt (x := imm24 ++ 0b00#2)).le⟩
  have ht16 (imm11 : BitVec 11) : -2 ^ 11 ≤ branchOffsetT16 imm11 ∧ branchOffsetT16 imm11 < 2 ^ 11 :=
    ⟨BitVec.le_toInt _, BitVec.toInt_lt⟩
  cases i with
  | bA32 imm24 | blA32 imm24 =>
    obtain rfl : branchOffsetA32 imm24 = offset := by simpa [Instr.op] using h
    exact ha32 imm24
  | bT16 imm11 =>
    obtain rfl : branchOffsetT16 imm11 = offset := by simpa [Instr.op] using h
    have := ht16 imm11
    omega
  | _ => simp [Instr.op] at h

/-- A pc that is fetched lies inside the store, and so below 2^31. -/
theorem pc_lt_of_fetch {s : State} {i : Instr} (hs : bytesOf s.records ≤ Config.maxImageBytes)
    (h : s.fetch = some i) : s.pc.toNat < 2 ^ 31 := by
  have hlt : s.pc.toNat < 0 + bytesOf s.records := (fetchFrom_lt h).2
  rw [Nat.zero_add] at hlt
  exact hlt.trans_le hs

/-- The instruction store is fixed during an execution (10_state.md R43). -/
theorem records_of_exec {i : Instr} {s t : State} (h : exec i s = .next t) : t.records = s.records := by
  obtain ⟨-, rfl⟩ | ⟨-, rfl⟩ := exec_next h <;> rfl

/-- The pc after a branch. -/
theorem pc_of_exec_branch {i : Instr} {s t : State} {offset : Int} (hop : i.op = .b offset ∨ i.op = .bl offset)
    (h : exec i s = .next t) : t.pc = s.pc + BitVec.ofInt 32 offset := by
  obtain ⟨hf, -⟩ | ⟨-, rfl⟩ := exec_next h
  · obtain ⟨rn, imm, ⟨rd, hacc⟩, -⟩ := (accessFaults_iff i.op s).1 hf
    obtain hop | hop := hop <;> simp [hop] at hacc
  · obtain hop | hop := hop <;> simp [nextPc, hop, State.branchTarget]

/-- A sum that does not wrap: where both ends lie below 2^31 and the distance is at most 2^25. -/
theorem toNat_add_ofInt_exact {a : Word} {offset : Int} (hlo : -2 ^ 25 ≤ offset) (hhi : offset ≤ 2 ^ 25)
    (ha : a.toNat < 2 ^ 31) (ht : (a + BitVec.ofInt 32 offset).toNat < 2 ^ 31) :
    ((a + BitVec.ofInt 32 offset).toNat : Int) = a.toNat + offset := by
  rw [BitVec.toNat_add, BitVec.toNat_ofInt] at *
  omega

/-- Settles O60: the old and the new pc lie inside a store of at most 2^31 bytes, so a wrapped target would be at least
2^31 - 2^25 bytes away, farther than an offset reaches. -/
theorem wrappedTargetIsExactTarget : Obligations.WrappedTargetIsExactTarget := by
  intro s t i offset hs hfetch
  obtain ⟨-, hbytes, -⟩ := hs
  have hpc := pc_lt_of_fetch hbytes hfetch
  refine ⟨fun hop hexec hnext => ?_, ?_⟩
  · obtain ⟨j, hj⟩ := Option.ne_none_iff_exists'.1 hnext
    have htpc := pc_lt_of_fetch (by rwa [records_of_exec hexec]) hj
    obtain ⟨hlo, hhi⟩ := branch_offset_bounds hop
    rw [pc_of_exec_branch hop hexec] at htpc ⊢
    exact toNat_add_ofInt_exact hlo hhi hpc htpc
  · have hsize : i.size.bytes ≤ 4 := by cases i.size <;> decide
    omega

end Sys2Proof.Machine
end

section
/-! ## Decoding an encoded sequence (30_encoding.md R70 to R74) -/

namespace Sys2Proof

open Sys2Proof.Laws

/-! ### One instruction -/

/-- A well-formed UNKNOWN unit decodes to itself (R75). -/
theorem decode_of_unrecognised {u : CodeUnit} (h : u.unrecognised = true) : decode u = .unknown u := by
  cases u with
  | a32 w => exact decode32_unknown fun r hr => by simpa using List.all_eq_true.1 h r hr
  | t16 x => exact decode16_unknown fun r hr => by simpa using List.all_eq_true.1 h r hr

/-- Decoding an encoded instruction gives it back: the unit fits the instruction's own row, and each field is read
from the place where the encoder put it. -/
theorem decode_encode {i : Instr} (h : i.wellFormed = true) : decode (encode i) = i := by
  cases i
  case unknown u => exact decode_of_unrecognised h
  case' andImmA32 => refine (decode32_andImmA32 (EncodeFitsRow.andImmA32 ..)).trans ?_
  case' andRegA32 => refine (decode32_andRegA32 (EncodeFitsRow.andRegA32 ..)).trans ?_
  case' eorImmA32 => refine (decode32_eorImmA32 (EncodeFitsRow.eorImmA32 ..)).trans ?_
  case' eorRegA32 => refine (decode32_eorRegA32 (EncodeFitsRow.eorRegA32 ..)).trans ?_
  case' subImmA32 => refine (decode32_subImmA32 (EncodeFitsRow.subImmA32 ..)).trans ?_
  case' subRegA32 => refine (decode32_subRegA32 (EncodeFitsRow.subRegA32 ..)).trans ?_
  case' subsImmA32 => refine (decode32_subsImmA32 (EncodeFitsRow.subsImmA32 ..)).trans ?_
  case' subsRegA32 => refine (decode32_subsRegA32 (EncodeFitsRow.subsRegA32 ..)).trans ?_
  case' addImmA32 => refine (decode32_addImmA32 (EncodeFitsRow.addImmA32 ..)).trans ?_
  case' addRegA32 => refine (decode32_addRegA32 (EncodeFitsRow.addRegA32 ..)).trans ?_
  case' addsImmA32 => refine (decode32_addsImmA32 (EncodeFitsRow.addsImmA32 ..)).trans ?_
  case' addsRegA32 => refine (decode32_addsRegA32 (EncodeFitsRow.addsRegA32 ..)).trans ?_
  case' orrImmA32 => refine (decode32_orrImmA32 (EncodeFitsRow.orrImmA32 ..)).trans ?_
  case' orrRegA32 => refine (decode32_orrRegA32 (EncodeFitsRow.orrRegA32 ..)).trans ?_
  case' movImmA32 => refine (decode32_movImmA32 (EncodeFitsRow.movImmA32 ..)).trans ?_
  case' movRegA32 => refine (decode32_movRegA32 (EncodeFitsRow.movRegA32 ..)).trans ?_
  case' movsImmA32 => refine (decode32_movsImmA32 (EncodeFitsRow.movsImmA32 ..)).trans ?_
  case' movsRegA32 => refine (decode32_movsRegA32 (EncodeFitsRow.movsRegA32 ..)).trans ?_
  case' cmpImmA32 => refine (decode32_cmpImmA32 (EncodeFitsRow.cmpImmA32 ..)).trans ?_
  case' cmpRegA32 => refine (decode32_cmpRegA32 (EncodeFitsRow.cmpRegA32 ..)).trans ?_
  case' ldrA32 => refine (decode32_ldrA32 (EncodeFitsRow.ldrA32 ..)).trans ?_
  case' strA32 => refine (decode32_strA32 (EncodeFitsRow.strA32 ..)).trans ?_
  case' bA32 => refine (decode32_bA32 (EncodeFitsRow.bA32 ..)).trans ?_
  case' blA32 => refine (decode32_blA32 (EncodeFitsRow.blA32 ..)).trans ?_
  case' bxA32 => refine (decode32_bxA32 (EncodeFitsRow.bxA32 ..)).trans ?_
  case' movsImm8T16 => refine (decode16_movsImm8T16 (EncodeFitsRow.movsImm8T16 ..)).trans ?_
  case' cmpImm8T16 => refine (decode16_cmpImm8T16 (EncodeFitsRow.cmpImm8T16 ..)).trans ?_
  case' addsImm8T16 => refine (decode16_addsImm8T16 (EncodeFitsRow.addsImm8T16 ..)).trans ?_
  case' subsImm8T16 => refine (decode16_subsImm8T16 (EncodeFitsRow.subsImm8T16 ..)).trans ?_
  case' addsRegT16 => refine (decode16_addsRegT16 (EncodeFitsRow.addsRegT16 ..)).trans ?_
  case' subsRegT16 => refine (decode16_subsRegT16 (EncodeFitsRow.subsRegT16 ..)).trans ?_
  case' addsImm3T16 => refine (decode16_addsImm3T16 (EncodeFitsRow.addsImm3T16 ..)).trans ?_
  case' subsImm3T16 => refine (decode16_subsImm3T16 (EncodeFitsRow.subsImm3T16 ..)).trans ?_
  case' movsRegT16 => refine (decode16_movsRegT16 (EncodeFitsRow.movsRegT16 ..)).trans ?_
  case' cmpRegT16 => refine (decode16_cmpRegT16 (EncodeFitsRow.cmpRegT16 ..)).trans ?_
  case' addRegT16 => refine (decode16_addRegT16 (EncodeFitsRow.addRegT16 ..)).trans ?_
  case' movRegT16 => refine (decode16_movRegT16 (EncodeFitsRow.movRegT16 ..)).trans ?_
  case' bxT16 => refine (decode16_bxT16 (EncodeFitsRow.bxT16 ..)).trans ?_
  case' strImm5T16 => refine (decode16_strImm5T16 (EncodeFitsRow.strImm5T16 ..)).trans ?_
  case' ldrImm5T16 => refine (decode16_ldrImm5T16 (EncodeFitsRow.ldrImm5T16 ..)).trans ?_
  case' strSpT16 => refine (decode16_strSpT16 (EncodeFitsRow.strSpT16 ..)).trans ?_
  case' ldrSpT16 => refine (decode16_ldrSpT16 (EncodeFitsRow.ldrSpT16 ..)).trans ?_
  case' addRdSpT16 => refine (decode16_addRdSpT16 (EncodeFitsRow.addRdSpT16 ..)).trans ?_
  case' addSpSpT16 => refine (decode16_addSpSpT16 (EncodeFitsRow.addSpSpT16 ..)).trans ?_
  case' subSpSpT16 => refine (decode16_subSpSpT16 (EncodeFitsRow.subSpSpT16 ..)).trans ?_
  case' bT16 => refine (decode16_bT16 (EncodeFitsRow.bT16 ..)).trans ?_
  all_goals simp [BitVec.extractLsb'_or, extract_place_self, extract_place_other, split4]

/-- The record of size 4 is an A32 word (R33). -/
theorem encode_eq_a32_of_size {i : Instr} (h : i.size = .four) : ∃ w, encode i = .a32 w := by
  cases he : encode i with
  | a32 w => exact ⟨w, rfl⟩
  | t16 x => simp [Instr.size, he, CodeUnit.size] at h

/-- The record of size 2 is a T16 halfword (R33). -/
theorem encode_eq_t16_of_size {i : Instr} (h : i.size = .two) : ∃ x, encode i = .t16 x := by
  cases he : encode i with
  | a32 w => simp [Instr.size, he, CodeUnit.size] at h
  | t16 x => exact ⟨x, rfl⟩

/-! ### A region -/

theorem length_toBytes (u : CodeUnit) : u.toBytes.length = u.size.bytes := by
  cases u <;> rfl

@[simp] theorem encodeBytes_cons (i : Instr) (is : List Instr) :
    encodeBytes (i :: is) = (encode i).toBytes ++ encodeBytes is := List.flatMap_cons

@[simp] theorem encodeBytes_append (is js : List Instr) :
    encodeBytes (is ++ js) = encodeBytes is ++ encodeBytes js := List.flatMap_append

/-- Instructions of one size take that many bytes each. -/
theorem length_encodeBytes {is : List Instr} {z : Size} (h : ∀ i ∈ is, i.size = z) :
    (encodeBytes is).length = z.bytes * is.length := by
  induction is with
  | nil => rfl
  | cons i is ih =>
    obtain ⟨hi, his⟩ := List.forall_mem_cons.1 h
    rw [encodeBytes_cons, List.length_append, length_toBytes, ih his, List.length_cons, Nat.mul_succ, Nat.add_comm]
    exact congrArg (_ + Size.bytes ·) hi

/-- The A32 region gives its instructions back (R72). -/
theorem decodeWords_encodeBytes {words : List Instr} (h : ∀ i ∈ words, i.wellFormed = true ∧ i.size = .four) :
    decodeWords (encodeBytes words) = words := by
  induction words with
  | nil => rfl
  | cons i words ih =>
    obtain ⟨⟨hwf, hsize⟩, hrest⟩ := List.forall_mem_cons.1 h
    obtain ⟨w, hw⟩ := encode_eq_a32_of_size hsize
    have hi : decode32 w = i := by simpa [hw, decode] using decode_encode hwf
    simp [hw, CodeUnit.toBytes, decodeWords, wordOfBytes_wordByte, hi, ih hrest]

/-- The T16 region gives its instructions back (R73). -/
theorem decodeHalves_encodeBytes {halves : List Instr} (h : ∀ i ∈ halves, i.wellFormed = true ∧ i.size = .two) :
    decodeHalves (encodeBytes halves) = halves := by
  induction halves with
  | nil => rfl
  | cons i halves ih =>
    obtain ⟨⟨hwf, hsize⟩, hrest⟩ := List.forall_mem_cons.1 h
    obtain ⟨x, hx⟩ := encode_eq_t16_of_size hsize
    have hi : decode16 x = i := by simpa [hx, decode] using decode_encode hwf
    simp [hx, CodeUnit.toBytes, decodeHalves, halfOfBytes_bytes, hi, ih hrest]

/-! ### The image -/

/-- An image of a whole number of words and a whole number of halfwords that is not too large is decoded region by
region (R71, R74). -/
theorem decodeImage_append {bufA bufT : List Byte} (hA : 4 ∣ bufA.length) (hT : 2 ∣ bufT.length)
    (hsize : bufA.length + bufT.length ≤ Config.maxImageBytes) :
    decodeImage (bufA ++ bufT) bufA.length = .ok (decodeWords bufA ++ decodeHalves bufT) := by
  have hfits : ¬ truncated (bufA ++ bufT).length bufA.length = true := by
    simp [truncated, Nat.mod_eq_zero_of_dvd hA, Nat.mod_eq_zero_of_dvd hT]
  rw [decodeImage, if_neg hfits, if_neg (by simpa using hsize), List.take_left, List.drop_left]

/-- Settles O18: the encoded lists are the two regions, and each region is decoded unit by unit. -/
theorem imageRoundTrip : Obligations.ImageRoundTrip := by
  intro words halves hwords hhalves hsize
  have hA : (encodeBytes words).length = 4 * words.length := length_encodeBytes fun i hi => (hwords i hi).2
  have hT : (encodeBytes halves).length = 2 * halves.length := length_encodeBytes fun i hi => (hhalves i hi).2
  rw [← hA, encodeBytes_append, decodeImage_append ⟨_, hA⟩ ⟨_, hT⟩ (by rwa [hA, hT]),
    decodeWords_encodeBytes hwords, decodeHalves_encodeBytes hhalves]

end Sys2Proof
end

section
/-! ## Memory under a store (20_memory.md R51 to R65) -/

namespace Sys2Proof.Machine

open Sys2Proof.Claims

/-! ### What a load and a store do -/

/-- Storing one word twice at an address is storing it once. -/
theorem Memory.writeWord_writeWord {m : Memory} (hm : m.wf) {a : Nat} (ha : a ≤ Config.lastWordAddress) (v : Word) :
    Memory.writeWord (m.writeWord a v) a v = m.writeWord a v := by
  have hw := Memory.wf_writeWord hm ha v
  refine Memory.ext_of_wf (Memory.wf_writeWord hw ha v) hw fun b => ?_
  rw [Memory.readByte_writeWord hw ha, Memory.readByte_writeWord hm ha]
  split <;> rfl

/-- Every load is the one load rule (41_load_store.md R173). -/
theorem exec_of_op_ldr {i : Instr} {rd rn : Reg} {imm : Int} (hop : i.op = .ldr rd rn imm) (s : State) :
    exec i s = opLdr i.size rd rn imm s := by
  rw [exec_eq_execRecord, execRecord, op_record, hop]
  rfl

/-- Every store is the one store rule (41_load_store.md R174). -/
theorem exec_of_op_str {i : Instr} {rd rn : Reg} {imm : Int} (hop : i.op = .str rd rn imm) (s : State) :
    exec i s = opStr i.size rd rn imm s := by
  rw [exec_eq_execRecord, execRecord, op_record, hop]
  rfl

/-- Settles O32: the store that goes on was in range. The load then reads the word that it wrote, and the store run
again has the same address and the same word, since it writes no register. -/
theorem loadAfterStoreGivesStoredWord : Obligations.LoadAfterStoreGivesStoredWord := by
  intro i j s t rd rn rd' rn' imm imm' hm hi hj h hsame hrun hea
  obtain ⟨hin, he⟩ | ⟨-, he⟩ := opStr_cases i.size rd rn imm s
  · obtain rfl : (s.store32 (effectiveAddress rn imm s) (s.reg rd)).advance i.size = t := by
      simpa [exec_of_op_str hi, he] using h
    have ha := (inRange_iff _).1 hin
    refine ⟨⟨_, (exec_of_op_ldr hj _).trans (if_pos (hea ▸ hin)), ?_⟩,
      ⟨_, (exec_of_op_str hi _).trans (if_pos hin), ?_⟩⟩
    · rw [hea]
      simpa [State.load32] using Memory.readWord_writeWord hm ha (s.reg rd)
    · exact Memory.writeWord_writeWord hm ha (s.reg rd)
  · obtain rfl : s.halt .memoryViolation = t := by simpa [exec_of_op_str hi, he] using h
    simp [hrun] at hsame

/-! ### What no other record and no step changes -/

/-- An op that is no STR leaves the memory. -/
theorem newMem_of_not_str {op : Op} (h : ∀ rd rn imm, op ≠ .str rd rn imm) (s : State) : newMem op s = s.mem := by
  cases op with
  | str rd rn imm => exact absurd rfl (h rd rn imm)
  | _ => rfl

/-- Settles O56: a halt and a completed record that is no STR leave the memory, and no case of a step touches the
instruction store. -/
theorem onlyStrChangesMemory : Obligations.OnlyStrChangesMemory := by
  refine ⟨fun i s t h hop => ?_, fun s t h => ?_⟩
  · obtain ⟨-, rfl⟩ | ⟨-, rfl⟩ := exec_next h
    · exact fun _ => rfl
    · intro a
      rw [mem_completed, op_record, newMem_of_not_str hop]
  · cases step_cases h with
    | stay | budget | outside | violation | run => rfl

end Sys2Proof.Machine
end

section
/-! ## Classes of units, and UNKNOWN (30_encoding.md R75, R76)

A statement about a class of units says what some fields hold. `Row.ofField` and `Row.join` write such a class as a
row of its own, so that the law of rows that exclude each other (R76) settles which rows of the table are left. -/

namespace Sys2Proof

/-! ### Classes of units as rows -/

/-- Two rows that differ in a bit that both fix (R76). -/
abbrev Row.Apart {n : Nat} (p q : Row n) : Prop := (p.pattern ^^^ q.pattern) &&& p.mask &&& q.mask ≠ 0

/-- The units whose field at `lo` holds `c`. -/
def Row.ofField (w lo : Nat) {n : Nat} (c : BitVec n) : Row w := ⟨fieldMask w (lo, n), place w c lo⟩

/-- The units that fit both rows. -/
def Row.join {n : Nat} (p q : Row n) : Row n := ⟨p.mask ||| q.mask, p.pattern ||| q.pattern⟩

theorem Row.and_mask_of_fits {n : Nat} {r : Row n} {u : BitVec n} (hf : r.fits u = true) :
    u &&& r.mask = r.pattern := by
  simpa [Row.fits] using hf

theorem Row.fits_eq_false_iff {n : Nat} {r : Row n} {u : BitVec n} : r.fits u = false ↔ u &&& r.mask ≠ r.pattern := by
  simp [Row.fits]

theorem Row.ofField_fits {w lo n : Nat} {u : BitVec w} {c : BitVec n} (h : u.extractLsb' lo n = c) :
    (Row.ofField w lo c).fits u = true := by
  subst h
  exact Row.fits_of (place_extract_eq_and u (lo, n)).symm

theorem Row.join_fits {n : Nat} {p q : Row n} {u : BitVec n} (hp : p.fits u = true) (hq : q.fits u = true) :
    (p.join q).fits u = true := by
  apply Row.fits_of
  rw [Row.join, BitVec.and_or_distrib_left, Row.and_mask_of_fits hp, Row.and_mask_of_fits hq]

/-- A one-bit field holds the bit. -/
theorem extract_eq_ofBool {w : Nat} {u : BitVec w} {i : Nat} {b : Bool} (h : u.getLsbD i = b) :
    u.extractLsb' i 1 = BitVec.ofBool b := by
  apply BitVec.eq_of_getLsbD_eq
  intro j hj
  obtain rfl : j = 0 := by omega
  simp [h]

/-- A unit that fits a row has the row's value in each field that the row fixes. -/
theorem Row.field_of_fits {w : Nat} {r : Row w} {u : BitVec w} (hf : r.fits u = true) (lo n : Nat)
    (hm : r.mask.extractLsb' lo n = BitVec.allOnes n) : u.extractLsb' lo n = r.pattern.extractLsb' lo n := by
  rw [← Row.and_mask_of_fits hf, BitVec.extractLsb'_and, hm, BitVec.and_allOnes]

/-- A unit that fits a row has the row's value in each bit that the row fixes. -/
theorem Row.bit_of_fits {w : Nat} {r : Row w} {u : BitVec w} (hf : r.fits u = true) (i : Nat)
    (hm : r.mask.getLsbD i = true) : u.getLsbD i = r.pattern.getLsbD i := by
  rw [← Row.and_mask_of_fits hf, BitVec.getLsbD_and, hm, Bool.and_true]

/-- A unit that fits a row is no less than the row's match. -/
theorem Row.pattern_le_of_fits {n : Nat} {r : Row n} {u : BitVec n} (hf : r.fits u = true) :
    r.pattern.toNat ≤ u.toNat := by
  rw [← Row.and_mask_of_fits hf, BitVec.toNat_and]
  exact Nat.and_le_left

/-- A unit that fits a row is no more than the row's match with every open bit set. -/
theorem Row.le_last_of_fits {n : Nat} {r : Row n} {u : BitVec n} (hf : r.fits u = true) :
    u.toNat ≤ (r.pattern ||| ~~~r.mask).toNat := by
  have hu : u = u &&& (r.pattern ||| ~~~r.mask) := by
    rw [← Row.and_mask_of_fits hf]
    apply BitVec.eq_of_getLsbD_eq
    intro i hi
    simp only [BitVec.getLsbD_and, BitVec.getLsbD_or, BitVec.getLsbD_not, hi, decide_true, Bool.true_and]
    cases u.getLsbD i <;> cases r.mask.getLsbD i <;> rfl
  calc u.toNat = (u &&& (r.pattern ||| ~~~r.mask)).toNat := congrArg _ hu
    _ ≤ (r.pattern ||| ~~~r.mask).toNat := by
      rw [BitVec.toNat_and]
      exact Nat.and_le_right

/-- A word of a class is UNKNOWN where it fits none of the rows that overlap the class. -/
theorem decode32_unknown_of_class {p : Row 32} {w : Word} (hp : p.fits w = true) (rest : List (Row 32))
    (hrows : ∀ r ∈ rowsA32, p.Apart r ∨ r ∈ rest) (hrest : ∀ r ∈ rest, r.fits w = false) :
    decode32 w = .unknown (.a32 w) :=
  decode32_unknown fun r hr => (hrows r hr).elim (Row.fits_apart hp) (hrest r)

/-- A halfword of a class is UNKNOWN where it fits none of the rows that overlap the class. -/
theorem decode16_unknown_of_class {p : Row 16} {h : Half} (hp : p.fits h = true) (rest : List (Row 16))
    (hrows : ∀ r ∈ rowsT16, p.Apart r ∨ r ∈ rest) (hrest : ∀ r ∈ rest, r.fits h = false) :
    decode16 h = .unknown (.t16 h) :=
  decode16_unknown fun r hr => (hrows r hr).elim (Row.fits_apart hp) (hrest r)

/-! ### The decoder and its rows (R75, R76) -/

/-- Settles O2: the unit of a well-formed instruction fits the instruction's own row, and its fields are read back. -/
theorem decodeEncodeRoundTrip : Obligations.DecodeEncodeRoundTrip := fun _ h => decode_encode h

theorem decode32_eq_unknown_iff (w : Word) :
    decode32 w = .unknown (.a32 w) ↔ ∀ r ∈ rowsA32, w &&& r.mask ≠ r.pattern := by
  constructor
  · intro h r hr
    have hwf : (Instr.unknown (.a32 w)).wellFormed = true := h ▸ wellFormed_decode32 w
    exact Row.fits_eq_false_iff.1 (by simpa using List.all_eq_true.1 hwf r hr)
  · exact fun h => decode32_unknown fun r hr => Row.fits_eq_false_iff.2 (h r hr)

theorem decode16_eq_unknown_iff (h : Half) :
    decode16 h = .unknown (.t16 h) ↔ ∀ r ∈ rowsT16, h &&& r.mask ≠ r.pattern := by
  constructor
  · intro hd r hr
    have hwf : (Instr.unknown (.t16 h)).wellFormed = true := hd ▸ wellFormed_decode16 h
    exact Row.fits_eq_false_iff.1 (by simpa using List.all_eq_true.1 hwf r hr)
  · exact fun hn => decode16_unknown fun r hr => Row.fits_eq_false_iff.2 (hn r hr)

/-- A unit whose op is UNKNOWN is the one that the instruction carries, since encoding gives it back. -/
theorem op_decode_eq_unknown_iff (u : CodeUnit) : (decode u).op = .unknown ↔ decode u = .unknown u := by
  constructor
  · intro h
    obtain ⟨v, hv⟩ := (Machine.op_eq_unknown_iff _).1 h
    obtain rfl : v = u := by simpa [hv, encode] using (encodeDecodeKeepsEveryBit u).2
    exact hv
  · exact fun h => by rw [h, Instr.op]

theorem op_decode32_of_unknown {w : Word} (h : decode32 w = .unknown (.a32 w)) : (decode32 w).op = .unknown :=
  congrArg Instr.op h

theorem op_decode16_of_unknown {h : Half} (hd : decode16 h = .unknown (.t16 h)) : (decode16 h).op = .unknown :=
  congrArg Instr.op hd

/-- Settles O4: an UNKNOWN is well-formed, so its unit fits no row, and encoding a record's instruction gives the
unit's bits back. -/
theorem unknownExactlyWhenNoRowFits : Obligations.UnknownExactlyWhenNoRowFits :=
  ⟨decode32_eq_unknown_iff, decode16_eq_unknown_iff, op_decode_eq_unknown_iff,
    fun w => ⟨decode32_size w, congrArg CodeUnit.raw (encode_decode32 w)⟩,
    fun h => ⟨decode16_size h, congrArg CodeUnit.raw (encode_decode16 h)⟩⟩

/-- Rows that are apart are not both fitted. -/
theorem Row.Apart.not_both {n : Nat} {p q : Row n} (h : p.Apart q) (u : BitVec n) :
    ¬ (u &&& p.mask = p.pattern ∧ u &&& q.mask = q.pattern) :=
  fun ⟨hp, hq⟩ => Row.not_fits (Row.fits_of hp) h (Row.fits_of hq)

theorem rowsA32_pairwise_apart : rowsA32.Pairwise Row.Apart := by decide

theorem rowsT16_pairwise_apart : rowsT16.Pairwise Row.Apart := by decide

/-- Settles O5: any two rows of a format differ in a bit that both fix. -/
theorem noUnitFitsTwoRows : Obligations.NoUnitFitsTwoRows :=
  ⟨rfl, rfl, fun w => rowsA32_pairwise_apart.imp fun h => h.not_both w,
    fun h => rowsT16_pairwise_apart.imp fun ha => ha.not_both h⟩

end Sys2Proof
end

section
/-! ## The A32 forms (30_encoding.md R77 to R86) -/

namespace Sys2Proof

open Sys2Proof.Claims

/-! ### Words outside the table (R77, R86) -/

theorem rowsA32_condition : ∀ r ∈ rowsA32, r.mask.extractLsb' 28 4 = BitVec.allOnes 4 ∧
    r.pattern.extractLsb' 28 4 = 0b1110 := by decide

/-- Settles O6: every A32 row fixes the condition field at 0b1110. -/
theorem conditionalWordsAreUnknown : Obligations.ConditionalWordsAreUnknown := by
  refine fun w hcond => decode32_unknown fun r hr => Bool.eq_false_iff.2 fun hf => hcond ?_
  obtain ⟨hm, hp⟩ := rowsA32_condition r hr
  exact (Row.field_of_fits hf 28 4 hm).trans hp

/-- Settles O11: every A32 row is apart from the two classes. -/
theorem otherA32ClassesAreUnknown : Obligations.OtherA32ClassesAreUnknown := by
  rintro w (hclass | hclass)
  · exact decode32_unknown_of_class (Row.ofField_fits hclass) [] (by decide) (List.forall_mem_nil _)
  · exact decode32_unknown_of_class (Row.ofField_fits hclass) [] (by decide) (List.forall_mem_nil _)

/-! ### A32 data processing (R78 to R82) -/

/-- The table's op for a word, with a given second operand. -/
def tableOp (w : Word) (src2 : Src2) : Op :=
  dataProcessingOp (w.extractLsb' 21 4) (w.extractLsb' 20 1) (w.extractLsb' 16 4) (w.extractLsb' 12 4) src2

/-- A class of words narrowed to one opcode and S bit of the table. -/
def tableRow (p : Row 32) (opcode sBit : Nat) : Row 32 :=
  (p.join (.ofField 32 21 (BitVec.ofNat 4 opcode))).join (.ofField 32 20 (BitVec.ofNat 1 sBit))

/-- The ten rows that the table gives a class of words, with the should-be-zero fields of R81. -/
def tableRows (p : Row 32) : List (Row 32) :=
  [tableRow p 0b0000 0, tableRow p 0b0001 0, tableRow p 0b0010 0, tableRow p 0b0010 1, tableRow p 0b0100 0,
    tableRow p 0b0100 1, tableRow p 0b1100 0, (tableRow p 0b1101 0).join (.ofField 32 16 (0 : BitVec 4)),
    (tableRow p 0b1101 1).join (.ofField 32 16 (0 : BitVec 4)),
    (tableRow p 0b1010 1).join (.ofField 32 12 (0 : BitVec 4))]

theorem tableRow_fits {p : Row 32} {w : Word} {opcode sBit : Nat} (hp : p.fits w = true)
    (hop : (w.extractLsb' 21 4).toNat = opcode) (hs : (w.extractLsb' 20 1).toNat = sBit) :
    (tableRow p opcode sBit).fits w = true := by
  subst hop hs
  have hfield {n : Nat} (x : BitVec n) : x = BitVec.ofNat n x.toNat :=
    ((BitVec.ofNat_toNat n x).trans (BitVec.setWidth_eq x)).symm
  exact Row.join_fits (Row.join_fits hp (Row.ofField_fits (hfield _))) (Row.ofField_fits (hfield _))

/-- A word for which the table has an op fits one of the ten rows. -/
theorem exists_tableRow_fits {p : Row 32} {w : Word} {src2 : Src2} (hp : p.fits w = true)
    (h : tableOp w src2 ≠ .unknown) : ∃ r ∈ tableRows p, r.fits w = true := by
  unfold tableOp dataProcessingOp at h
  split at h
  case h_8 hop hs | h_9 hop hs | h_10 hop hs =>
    split at h
    case isTrue hz => exact ⟨_, by simp [tableRows], Row.join_fits (tableRow_fits hp hop hs) (Row.ofField_fits hz)⟩
    case isFalse => exact absurd rfl h
  case h_11 => exact absurd rfl h
  all_goals
    rename_i hop hs
    exact ⟨_, by simp [tableRows], tableRow_fits hp hop hs⟩

/-- The table has no op for a word of a class that fits none of the class's ten rows. -/
theorem tableOp_eq_unknown {p : Row 32} {w : Word} (hp : p.fits w = true) (hrows : tableRows p ⊆ rowsA32)
    (hn : ∀ r ∈ rowsA32, r.fits w = false) (src2 : Src2) : tableOp w src2 = .unknown := by
  by_contra h
  obtain ⟨r, hr, hf⟩ := exists_tableRow_fits hp h
  simp [hn r (hrows hr)] at hf

/-- The table's op for a word that fits a row with a fixed opcode and S bit. -/
theorem tableOp_of_fits {r : Row 32} {w : Word} (hf : r.fits w = true)
    (hop : r.mask.extractLsb' 21 4 = BitVec.allOnes 4) (hs : r.mask.extractLsb' 20 1 = BitVec.allOnes 1)
    (src2 : Src2) :
    tableOp w src2 = dataProcessingOp (r.pattern.extractLsb' 21 4) (r.pattern.extractLsb' 20 1)
      (w.extractLsb' 16 4) (w.extractLsb' 12 4) src2 := by
  rw [tableOp, Row.field_of_fits hf 21 4 hop, Row.field_of_fits hf 20 1 hs]

/-- The rotation of the modified immediate (R79; 00_scope.md R10). -/
theorem modifiedImm_eq_rotateRight (rot : BitVec 4) (imm8 : BitVec 8) :
    modifiedImm rot imm8 = (imm8.setWidth 32).rotateRight (2 * rot.toNat) := by
  have hlt : 2 * rot.toNat < 32 := by omega
  exact (BitVec.rotateRight_eq_rotateRightAux_of_lt hlt).symm

/-- The words with `w[31:25] = 1110 001` (R79). -/
def classImm : Row 32 := .ofField 32 25 0b1110001#7

/-- The words with `w[31:25] = 1110 000` (R80). -/
def classReg : Row 32 := .ofField 32 25 0b1110000#7

/-- The words of the register class with `w[11:4] = 0` (R80). -/
def classRegPlain : Row 32 := classReg.join (.ofField 32 4 0#8)

/-- Settles O7: a row of the class fixes the opcode and S that the table gives its op, and a word of the class that
fits no row has none of the table's ten entries. -/
theorem a32ImmediateDataProcessingRecords : Obligations.A32ImmediateDataProcessingRecords := by
  intro w hclass
  have hp : classImm.fits w = true := Row.ofField_fits hclass
  rw [← modifiedImm_eq_rotateRight]
  apply decode32_elim (P := fun i => i.op = tableOp w (.imm (modifiedImm (w.extractLsb' 8 4) (w.extractLsb' 0 8)))) w
  case h0 | h2 | h4 | h6 | h8 | h10 | h12 => exact fun hf => (tableOp_of_fits hf (by decide) (by decide) _).symm
  case h14 | h16 =>
    intro hf
    rw [tableOp_of_fits hf (by decide) (by decide)]
    exact (if_pos (Row.field_of_fits hf 16 4 (by decide))).symm
  case h18 =>
    intro hf
    rw [tableOp_of_fits hf (by decide) (by decide)]
    exact (if_pos (Row.field_of_fits hf 12 4 (by decide))).symm
  case hu => exact fun hn => (tableOp_eq_unknown hp (by decide) hn _).symm
  all_goals exact fun hf => absurd hf (Row.not_fits hp (by decide))

/-- The record of a register word with `w[11:4] = 0` (R80). -/
theorem op_decode32_of_classRegPlain {w : Word} (hp : classRegPlain.fits w = true) :
    (decode32 w).op = tableOp w (.reg (reg4 (w.extractLsb' 0 4))) := by
  apply decode32_elim (P := fun i => i.op = tableOp w (.reg (reg4 (w.extractLsb' 0 4)))) w
  case h1 | h3 | h5 | h7 | h9 | h11 | h13 => exact fun hf => (tableOp_of_fits hf (by decide) (by decide) _).symm
  case h15 | h17 =>
    intro hf
    rw [tableOp_of_fits hf (by decide) (by decide)]
    exact (if_pos (Row.field_of_fits hf 16 4 (by decide))).symm
  case h19 =>
    intro hf
    rw [tableOp_of_fits hf (by decide) (by decide)]
    exact (if_pos (Row.field_of_fits hf 12 4 (by decide))).symm
  case hu => exact fun hn => (tableOp_eq_unknown hp (by decide) hn _).symm
  all_goals exact fun hf => absurd hf (Row.not_fits hp (by decide))

theorem rowsA32_of_classReg : ∀ r ∈ rowsA32, classReg.Apart r ∨ r = rowBxA32 ∨
    r.mask.extractLsb' 4 8 = BitVec.allOnes 8 ∧ r.pattern.extractLsb' 4 8 = 0 := by decide

/-- Settles O8: with `w[11:4] = 0` as for the immediate forms; each other row of the class but BX fixes that field
at 0. -/
theorem a32RegisterDataProcessingRecords : Obligations.A32RegisterDataProcessingRecords := by
  intro w hclass
  have hp : classReg.fits w = true := Row.ofField_fits hclass
  refine ⟨fun hz => op_decode32_of_classRegPlain (Row.join_fits hp (Row.ofField_fits hz)), fun hz hbx => ?_⟩
  refine op_decode32_of_unknown (decode32_unknown fun r hr => ?_)
  obtain ha | rfl | ⟨hm, hpat⟩ := rowsA32_of_classReg r hr
  · exact Row.fits_apart hp ha
  · exact Row.fits_eq_false_iff.2 hbx
  · exact Bool.eq_false_iff.2 fun hf => hz ((Row.field_of_fits hf 4 8 hm).trans hpat)

/-! ### A32 loads and stores (R83) -/

theorem memOffset_extract (w : Word) : memOffset (w.extractLsb' 23 1) (w.extractLsb' 0 12) =
    if w.getLsbD 23 then ((w.extractLsb' 0 12).toNat : Int) else -((w.extractLsb' 0 12).toNat : Int) := by
  rw [memOffset, BitVec.getLsbD_eq_extractLsb']
  simp only [beq_iff_eq]

/-- The words with `w[31:26] = 1110 01` (R83). -/
def classAccess : Row 32 := .ofField 32 26 0b111001#6

/-- The words whose bit `i` is `b`. -/
def Row.ofBit (i : Nat) (b : Bool) : Row 32 := .ofField 32 i (BitVec.ofBool b)

theorem Row.ofBit_fits {w : Word} {i : Nat} {b : Bool} (h : w.getLsbD i = b) : (Row.ofBit i b).fits w = true :=
  Row.ofField_fits (extract_eq_ofBool h)

/-- The words of the class with I = 0, P = 1, B = 0 and W = 0. -/
def classOffsetAccess : Row 32 :=
  (((classAccess.join (.ofBit 25 false)).join (.ofBit 24 true)).join (.ofBit 22 false)).join (.ofBit 21 false)

theorem rowsA32_of_classAccess : ∀ r ∈ rowsA32, classAccess.Apart r ∨
    (r.mask.getLsbD 25 = true ∧ r.mask.getLsbD 24 = true ∧ r.mask.getLsbD 22 = true ∧ r.mask.getLsbD 21 = true) ∧
    (r.pattern.getLsbD 25 = false ∧ r.pattern.getLsbD 24 = true ∧ r.pattern.getLsbD 22 = false ∧
      r.pattern.getLsbD 21 = false) := by decide

/-- Settles O9: the bits I, P, B, W and L complete the class to the row of LDR or of STR, and both rows fix them so. -/
theorem a32LoadStoreRecords : Obligations.A32LoadStoreRecords := by
  intro w hclass rd rn magnitude imm
  have hp : classAccess.fits w = true := Row.ofField_fits hclass
  split
  case isTrue hform =>
    obtain ⟨hI, hP, hB, hW⟩ := hform
    have hq : classOffsetAccess.fits w = true :=
      Row.join_fits (Row.join_fits (Row.join_fits (Row.join_fits hp (Row.ofBit_fits hI)) (Row.ofBit_fits hP))
        (Row.ofBit_fits hB)) (Row.ofBit_fits hW)
    split
    case isTrue hL =>
      have hf : rowLdrA32.fits w = true := Row.join_fits hq (Row.ofBit_fits hL)
      rw [decode32_ldrA32 hf, Instr.op, memOffset_extract]
    case isFalse hL =>
      have hf : rowStrA32.fits w = true := Row.join_fits hq (Row.ofBit_fits (Bool.eq_false_iff.2 hL))
      rw [decode32_strA32 hf, Instr.op, memOffset_extract]
  case isFalse hform =>
    refine op_decode32_of_unknown (decode32_unknown fun r hr => ?_)
    obtain ha | ⟨⟨hm25, hm24, hm22, hm21⟩, hI, hP, hB, hW⟩ := rowsA32_of_classAccess r hr
    · exact Row.fits_apart hp ha
    · refine Bool.eq_false_iff.2 fun hf => hform ⟨?_, ?_, ?_, ?_⟩
      · exact (Row.bit_of_fits hf 25 hm25).trans hI
      · exact (Row.bit_of_fits hf 24 hm24).trans hP
      · exact (Row.bit_of_fits hf 22 hm22).trans hB
      · exact (Row.bit_of_fits hf 21 hm21).trans hW

/-! ### A32 branches (R84, R85) -/

theorem branchOffsetA32_eq (imm24 : BitVec 24) : branchOffsetA32 imm24 = imm24.toInt * 4 := by
  rw [branchOffsetA32, BitVec.toInt_append_zero]
  omega

theorem branchOffsetT16_eq (imm11 : BitVec 11) : branchOffsetT16 imm11 = 2 * imm11.toInt := by
  rw [branchOffsetT16, BitVec.toInt_append_zero]
  omega

/-- Every branch offset is even. -/
theorem branch_offset_even {i : Instr} {offset : Int} (h : i.op = .b offset ∨ i.op = .bl offset) :
    offset % 2 = 0 := by
  cases i with
  | bA32 imm24 | blA32 imm24 =>
    obtain rfl : branchOffsetA32 imm24 = offset := by simpa [Instr.op] using h
    rw [branchOffsetA32_eq]
    omega
  | bT16 imm11 =>
    obtain rfl : branchOffsetT16 imm11 = offset := by simpa [Instr.op] using h
    rw [branchOffsetT16_eq]
    omega
  | _ => simp [Instr.op] at h

/-- The words with `w[31:25] = 1110 101` (R84). -/
def classBranch : Row 32 := .ofField 32 25 0b1110101#7

theorem op_decode32_of_classBranch {w : Word} (hp : classBranch.fits w = true) :
    (decode32 w).op = if w.getLsbD 24 then .bl ((w.extractLsb' 0 24).toInt * 4)
      else .b ((w.extractLsb' 0 24).toInt * 4) := by
  rw [← branchOffsetA32_eq]
  split
  case isTrue hL =>
    have hf : rowBlA32.fits w = true := Row.join_fits hp (Row.ofBit_fits hL)
    rw [decode32_blA32 hf, Instr.op]
  case isFalse hL =>
    have hf : rowBA32.fits w = true := Row.join_fits hp (Row.ofBit_fits (Bool.eq_false_iff.2 hL))
    rw [decode32_bA32 hf, Instr.op]

/-- The words `0xE12FFF3?`, ARM's BLX register form (R85). -/
def classBlx : Row 32 := ⟨0xFFFFFFF0, 0xE12FFF30⟩

/-- Settles O10: bit 24 completes the class to the row of BL or of B, and no row overlaps BX with another condition or
the BLX register form. -/
theorem a32BranchRecords : Obligations.A32BranchRecords := by
  refine ⟨fun w hclass => ⟨op_decode32_of_classBranch (Row.ofField_fits hclass), ?_⟩, fun u offset h => ?_,
    fun w h => ?_, fun w _ hcond => ?_, fun w h => ?_⟩
  · have hlo : -2 ^ 23 ≤ (w.extractLsb' 0 24).toInt := BitVec.le_toInt _
    have hhi : (w.extractLsb' 0 24).toInt < 2 ^ 23 := BitVec.toInt_lt
    omega
  · obtain ⟨hlo, hhi⟩ := Machine.branch_offset_bounds h
    exact ⟨hlo, hhi, branch_offset_even h⟩
  · exact congrArg Instr.op (decode32_bxA32 (Row.fits_of (r := rowBxA32) h))
  · exact op_decode32_of_unknown (conditionalWordsAreUnknown w hcond)
  · have hp : classBlx.fits w = true := Row.fits_of h
    exact op_decode32_of_unknown (decode32_unknown_of_class hp [] (by decide) (List.forall_mem_nil _))

end Sys2Proof
end

section
/-! ## The T16 forms (30_encoding.md R100 to R123) -/

namespace Sys2Proof

/-! ### Forms with an op -/

/-- Settles O12: the mask and match of each rule are a row of the table. -/
theorem t16FlagSettingForms : Obligations.T16FlagSettingForms := by
  refine fun h => ⟨fun hf => ?_, fun hf => ?_, fun hf => ?_, fun hf => ?_, fun hf => ?_, fun hf => ?_, fun hf => ?_,
    fun hf => ?_⟩
  · exact congrArg Instr.op (decode16_movsImm8T16 (Row.fits_of hf))
  · exact congrArg Instr.op (decode16_cmpImm8T16 (Row.fits_of hf))
  · exact congrArg Instr.op (decode16_addsImm8T16 (Row.fits_of hf))
  · exact congrArg Instr.op (decode16_subsImm8T16 (Row.fits_of hf))
  · exact congrArg Instr.op (decode16_addsRegT16 (Row.fits_of hf))
  · exact congrArg Instr.op (decode16_subsRegT16 (Row.fits_of hf))
  · exact congrArg Instr.op (decode16_addsImm3T16 (Row.fits_of hf))
  · exact congrArg Instr.op (decode16_subsImm3T16 (Row.fits_of hf))

/-- The halfwords with `h[15:11] = 0`: the shift by an immediate, MOVS where the amount is 0 (R109). -/
def classShift : Row 16 := .ofField 16 11 0#5

/-- The halfwords `0x47xx` (R113). -/
def classExchange : Row 16 := ⟨0xFF00, 0x4700⟩

/-- A shift by an amount that is not 0 is UNKNOWN: MOVS is the one row of the class, and it fixes the amount at 0. -/
theorem decode16_shift {h : Half} (hclass : h.extractLsb' 11 5 = 0) (hamount : h.extractLsb' 6 5 ≠ 0) :
    decode16 h = .unknown (.t16 h) := by
  refine decode16_unknown_of_class (p := classShift) (Row.ofField_fits hclass) [rowMovsRegT16] (by decide) ?_
  rw [List.forall_mem_singleton, Bool.eq_false_iff]
  exact fun hf => hamount (Row.field_of_fits hf 6 5 (by decide))

/-- BX is the one row of its class, and it fixes bit 7 and the bits 2 to 0 at 0 (R113). -/
theorem decode16_exchange {h : Half} (hclass : h &&& 0xFF00 = 0x4700)
    (hfield : h.getLsbD 7 = true ∨ h.extractLsb' 0 3 ≠ 0) : decode16 h = .unknown (.t16 h) := by
  refine decode16_unknown_of_class (p := classExchange) (Row.fits_of hclass) [rowBxT16] (by decide) ?_
  rw [List.forall_mem_singleton, Bool.eq_false_iff]
  intro hf
  obtain hbit | hlow := hfield
  · exact Bool.false_ne_true ((Row.bit_of_fits hf 7 (by decide)).symm.trans hbit)
  · exact hlow (Row.field_of_fits hf 0 3 (by decide))

/-- Settles O13: the five forms are rows of the table, and the classes of MOVS and of BX hold no other row. -/
theorem t16RegisterForms : Obligations.T16RegisterForms := by
  refine fun h => ⟨fun hf => ?_, fun hclass hamount => ?_, fun hf => ?_, fun hf => ?_, fun hf => ?_, fun hf => ?_,
    fun hclass hfield => ?_⟩
  · exact congrArg Instr.op (decode16_movsRegT16 (Row.fits_of hf))
  · exact op_decode16_of_unknown (decode16_shift hclass hamount)
  · exact congrArg Instr.op (decode16_cmpRegT16 (Row.fits_of hf))
  · exact congrArg Instr.op (decode16_addRegT16 (Row.fits_of hf))
  · exact congrArg Instr.op (decode16_movRegT16 (Row.fits_of hf))
  · exact congrArg Instr.op (decode16_bxT16 (Row.fits_of hf))
  · exact op_decode16_of_unknown (decode16_exchange hclass hfield)

/-- Settles O14: the mask and match of each rule are a row of the table, and the branch offset is twice a signed
11-bit field. -/
theorem t16AddressAndBranchForms : Obligations.T16AddressAndBranchForms := by
  refine fun h => ⟨fun hf => ?_, fun hf => ?_, fun hf => ?_, fun hf => ?_, fun hf => ?_, fun hf => ?_, fun hf => ?_,
    fun hf => ⟨?_, ?_⟩⟩
  · exact congrArg Instr.op (decode16_strImm5T16 (Row.fits_of hf))
  · exact congrArg Instr.op (decode16_ldrImm5T16 (Row.fits_of hf))
  · exact congrArg Instr.op (decode16_strSpT16 (Row.fits_of hf))
  · exact congrArg Instr.op (decode16_ldrSpT16 (Row.fits_of hf))
  · exact congrArg Instr.op (decode16_addRdSpT16 (Row.fits_of hf))
  · exact congrArg Instr.op (decode16_addSpSpT16 (Row.fits_of hf))
  · exact congrArg Instr.op (decode16_subSpSpT16 (Row.fits_of hf))
  · exact (congrArg Instr.op (decode16_bT16 (Row.fits_of hf))).trans (congrArg Op.b (branchOffsetT16_eq _))
  · have hlo : -2 ^ 10 ≤ (h.extractLsb' 0 11).toInt := BitVec.le_toInt _
    have hhi : (h.extractLsb' 0 11).toInt < 2 ^ 10 := BitVec.toInt_lt
    omega

/-! ### Classes without an op (R122, R123) -/

/-- A halfword of a range is UNKNOWN where it fits none of the rows that reach into the range. -/
theorem decode16_unknown_of_range {h : Half} (first last : Nat) (hfirst : first ≤ h.toNat) (hlast : h.toNat ≤ last)
    (rest : List (Row 16))
    (hrows : ∀ r ∈ rowsT16, last < r.pattern.toNat ∨ (r.pattern ||| ~~~r.mask).toNat < first ∨ r ∈ rest)
    (hrest : ∀ r ∈ rest, h &&& r.mask ≠ r.pattern) : decode16 h = .unknown (.t16 h) := by
  refine decode16_unknown fun r hr => ?_
  obtain habove | hbelow | hmem := hrows r hr
  · exact Bool.eq_false_iff.2 fun hf => by have := Row.pattern_le_of_fits hf; omega
  · exact Bool.eq_false_iff.2 fun hf => by have := Row.le_last_of_fits hf; omega
  · exact Row.fits_eq_false_iff.2 (hrest r hmem)

/-- Only the A32 form is a BL, and it has size 4 (R123). -/
theorem size_of_op_bl {i : Instr} {offset : Int} (h : i.op = .bl offset) : i.size = .four := by
  cases i with
  | blA32 => rfl
  | _ => simp [Instr.op] at h

/-- Settles O15: a row holds halfwords from its match to its match with the open bits set, and no row but the one that
a clause excepts reaches into the clause's range. -/
theorem t16UnknownClasses : Obligations.T16UnknownClasses := by
  refine fun h => ⟨(decode16_eq_unknown_iff h).2, fun hhi hmovs => ?_, fun ⟨hlo, hhi⟩ hcmp => ?_, fun ⟨hlo, hhi⟩ => ?_,
    fun ⟨hlo, hhi⟩ => ?_, fun ⟨hlo, hhi⟩ => ?_, fun ⟨hlo, hhi⟩ => ?_, fun ⟨hlo, hhi⟩ => ?_, fun hlo => ?_,
    fun offset hbl => ?_⟩
  · exact decode16_unknown_of_range 0 0x17FF (Nat.zero_le _) hhi [rowMovsRegT16] (by decide)
      (List.forall_mem_singleton.2 hmovs)
  · exact decode16_unknown_of_range 0x4000 0x43FF hlo hhi [rowCmpRegT16] (by decide)
      (List.forall_mem_singleton.2 hcmp)
  · exact decode16_unknown_of_range 0x4500 0x45FF hlo hhi [] (by decide) (List.forall_mem_nil _)
  · exact decode16_unknown_of_range 0x4780 0x5FFF hlo hhi [] (by decide) (List.forall_mem_nil _)
  · exact decode16_unknown_of_range 0x7000 0x8FFF hlo hhi [] (by decide) (List.forall_mem_nil _)
  · exact decode16_unknown_of_range 0xA000 0xA7FF hlo hhi [] (by decide) (List.forall_mem_nil _)
  · exact decode16_unknown_of_range 0xB100 0xDFFF hlo hhi [] (by decide) (List.forall_mem_nil _)
  · exact decode16_unknown_of_range 0xE800 0xFFFF hlo (Nat.le_of_lt_succ h.isLt) [] (by decide)
      (List.forall_mem_nil _)
  · exact Size.noConfusion ((decode16_size h).symm.trans (size_of_op_bl hbl))

end Sys2Proof
end

section
/-! ## Sample units, and the A32 encodings of data-processing records (95_test_vectors.md; 30_encoding.md R127) -/

namespace Sys2Proof

/-! ### Units of the test vectors -/

/-- Settles O1: the decoder is run on the nine units. -/
theorem sampleWordsDecode : Obligations.SampleWordsDecode := by
  unfold Obligations.SampleWordsDecode
  decide

/-! ### From a record to its A32 word (R127) -/

/-- An A32 instruction has a word that decodes to it. -/
theorem exists_word_of_a32 {i : Instr} (hwf : i.wellFormed = true) (hsize : i.size = .four) :
    ∃ w, decode32 w = i := by
  obtain ⟨w, hw⟩ := encode_eq_a32_of_size hsize
  exact ⟨w, by simpa [hw, decode] using decode_encode hwf⟩

/-- A 3-bit register field as a 4-bit one. -/
theorem reg4_setWidth (f : BitVec 3) : reg4 (f.setWidth 4) = reg3 f := by
  revert f; decide

/-- An 8-bit immediate without a rotation. -/
theorem modifiedImm_zero (imm8 : BitVec 8) : modifiedImm 0 imm8 = imm8.setWidth 32 := by
  simp [modifiedImm, ror32]

/-- An 8-bit immediate rotated right by 30 is 4 times the immediate. -/
theorem modifiedImm_fifteen (imm8 : BitVec 8) : modifiedImm 15 imm8 = times4 imm8 := by
  have hlow : imm8.setWidth 32 >>> 30 = 0#32 := by
    apply BitVec.eq_of_toNat_eq
    rw [BitVec.toNat_ushiftRight, BitVec.toNat_setWidth_of_le (by decide), Nat.shiftRight_eq_div_pow]
    exact Nat.div_eq_of_lt (imm8.isLt.trans (by decide))
  have hhigh : imm8.setWidth 32 <<< 2 = times4 imm8 := by
    apply BitVec.eq_of_toNat_eq
    rw [times4, BitVec.toNat_shiftLeft, BitVec.toNat_setWidth_of_le (by decide), Nat.shiftLeft_eq, BitVec.toNat_ofNat,
      Nat.mul_comm]
  calc modifiedImm 15 imm8 = imm8.setWidth 32 >>> 30 ||| imm8.setWidth 32 <<< 2 := rfl
    _ = times4 imm8 := by rw [hlow, hhigh, BitVec.zero_or]

theorem times4_setWidth (imm7 : BitVec 7) : times4 (imm7.setWidth 8) = times4 imm7 := by
  rw [times4, times4, BitVec.toNat_setWidth_of_le (by decide)]

/-- The A32 form with the op of a T16 data-processing form; every other instruction is its own. -/
def Instr.a32Form : Instr → Instr
  | .movsImm8T16 rd imm8 => .movsImmA32 (rd.setWidth 4) 0 imm8
  | .cmpImm8T16 rn imm8 => .cmpImmA32 (rn.setWidth 4) 0 imm8
  | .addsImm8T16 rdn imm8 => .addsImmA32 (rdn.setWidth 4) (rdn.setWidth 4) 0 imm8
  | .subsImm8T16 rdn imm8 => .subsImmA32 (rdn.setWidth 4) (rdn.setWidth 4) 0 imm8
  | .addsRegT16 rd rn rm => .addsRegA32 (rd.setWidth 4) (rn.setWidth 4) (rm.setWidth 4)
  | .subsRegT16 rd rn rm => .subsRegA32 (rd.setWidth 4) (rn.setWidth 4) (rm.setWidth 4)
  | .addsImm3T16 rd rn imm3 => .addsImmA32 (rd.setWidth 4) (rn.setWidth 4) 0 (imm3.setWidth 8)
  | .subsImm3T16 rd rn imm3 => .subsImmA32 (rd.setWidth 4) (rn.setWidth 4) 0 (imm3.setWidth 8)
  | .movsRegT16 rd rm => .movsRegA32 (rd.setWidth 4) (rm.setWidth 4)
  | .cmpRegT16 rn rm => .cmpRegA32 (rn.setWidth 4) (rm.setWidth 4)
  | .addRegT16 rdn rm => .addRegA32 rdn rdn rm
  | .movRegT16 rd rm => .movRegA32 rd rm
  | .addRdSpT16 rd imm8 => .addImmA32 (rd.setWidth 4) 13 15 imm8
  | .addSpSpT16 imm7 => .addImmA32 13 13 15 (imm7.setWidth 8)
  | .subSpSpT16 imm7 => .subImmA32 13 13 15 (imm7.setWidth 8)
  | i => i

/-- The A32 form has the op of the instruction, operands included. -/
theorem op_a32Form (i : Instr) : i.a32Form.op = i.op := by
  cases i with
  | movsImm8T16 | cmpImm8T16 | addsImm8T16 | subsImm8T16 =>
    simp only [Instr.a32Form, Instr.op, reg4_setWidth, modifiedImm_zero]
  | addsImm3T16 | subsImm3T16 =>
    simp only [Instr.a32Form, Instr.op, reg4_setWidth, modifiedImm_zero]
    rw [BitVec.setWidth_setWidth (by decide)]
  | addsRegT16 | subsRegT16 | movsRegT16 | cmpRegT16 => simp only [Instr.a32Form, Instr.op, reg4_setWidth]
  | addRdSpT16 =>
    simp only [Instr.a32Form, Instr.op, reg4_setWidth, modifiedImm_fifteen]
    rfl
  | addSpSpT16 | subSpSpT16 =>
    simp only [Instr.a32Form, Instr.op, modifiedImm_fifteen, times4_setWidth]
    rfl
  | _ => rfl

/-- The A32 form of a data-processing instruction is an A32 instruction of the table. -/
theorem a32Form_of_dataProcessing {i : Instr} (h : Claims.isDataProcessing i.op) :
    i.a32Form.wellFormed = true ∧ i.a32Form.size = .four := by
  cases i with
  | ldrA32 | strA32 | bA32 | blA32 | bxA32 | bxT16 | strImm5T16 | ldrImm5T16 | strSpT16 | ldrSpT16 | bT16 | unknown =>
    exact h.elim
  | _ => exact ⟨rfl, rfl⟩

/-- Settles O19: the encoding of the A32 form decodes to the A32 form, which has the op. -/
theorem dataProcessingHasA32Encoding : Obligations.DataProcessingHasA32Encoding := by
  intro u h
  obtain ⟨hwf, hsize⟩ := a32Form_of_dataProcessing h
  obtain ⟨w, hw⟩ := exists_word_of_a32 hwf hsize
  exact ⟨w, by rw [hw, op_a32Form]⟩

end Sys2Proof
end

section
/-! ## An image's records (30_encoding.md R71 to R74) -/

namespace Sys2Proof

open Sys2Proof.Claims Sys2Proof.Machine

/-! ### The three outcomes (R71) -/

theorem truncated_iff (length a32Bytes : Nat) :
    truncated length a32Bytes = true ↔ a32Bytes % 4 ≠ 0 ∨ length < a32Bytes ∨ (length - a32Bytes) % 2 ≠ 0 := by
  simp [truncated, or_assoc]

/-- Settles O16: each branch of the image decoder gives one of the three outcomes. -/
theorem truncatedInputExactly : Obligations.TruncatedInputExactly := by
  intro buf a32Bytes bad
  have hbad : truncated buf.length a32Bytes = true ↔ bad := truncated_iff _ _
  rw [decodeImage]
  split
  case isTrue ht => simp [hbad.1 ht]
  case isFalse ht =>
    have hgood : ¬ bad := fun hb => ht (hbad.2 hb)
    split
    case isTrue hsize =>
      have hlarge : 2 ^ 31 < buf.length := hsize
      simp [hgood, hlarge, hlarge.not_ge, -Nat.reducePow]
    case isFalse hsize =>
      have hfits : buf.length ≤ 2 ^ 31 := Nat.not_lt.1 hsize
      simp [hgood, hfits, hfits.not_gt, -Nat.reducePow]

/-! ### A region's records (R72, R73) -/

theorem wordAt_zero (b0 b1 b2 b3 : Byte) (rest : List Byte) :
    wordAt (b0 :: b1 :: b2 :: b3 :: rest) 0 = wordOfBytes b0 b1 b2 b3 := by
  simp [wordAt, wordOfBytes, place]

theorem halfAt_zero (b0 b1 : Byte) (rest : List Byte) : halfAt (b0 :: b1 :: rest) 0 = halfOfBytes b0 b1 := by
  simp [halfAt, halfOfBytes, place]

theorem wordAt_drop (buf : List Byte) (n p : Nat) : wordAt (buf.drop n) p = wordAt buf (n + p) := by
  simp [wordAt, List.getD_eq_getElem?_getD, List.getElem?_drop, Nat.add_assoc]

theorem halfAt_drop (buf : List Byte) (n p : Nat) : halfAt (buf.drop n) p = halfAt buf (n + p) := by
  simp [halfAt, List.getD_eq_getElem?_getD, List.getElem?_drop, Nat.add_assoc]

theorem wordAt_take (buf : List Byte) {n p : Nat} (h : p + 4 ≤ n) : wordAt (buf.take n) p = wordAt buf p := by
  simp [wordAt, List.getD_eq_getElem?_getD, show p < n by omega, show p + 1 < n by omega,
    show p + 2 < n by omega, show p + 3 < n by omega]

/-- A buffer that does not begin with a word has fewer than 4 bytes. -/
theorem length_lt_four {buf : List Byte} (h : ∀ b0 b1 b2 b3 rest, buf = b0 :: b1 :: b2 :: b3 :: rest → False) :
    buf.length < 4 := by
  match buf, h with
  | [], _ | [_], _ | [_, _], _ | [_, _, _], _ => simp
  | b0 :: b1 :: b2 :: b3 :: rest, h => exact (h b0 b1 b2 b3 rest rfl).elim

/-- A buffer that does not begin with a halfword has fewer than 2 bytes. -/
theorem length_lt_two {buf : List Byte} (h : ∀ b0 b1 rest, buf = b0 :: b1 :: rest → False) : buf.length < 2 := by
  match buf, h with
  | [], _ | [_], _ => simp
  | b0 :: b1 :: rest, h => exact (h b0 b1 rest rfl).elim

theorem length_decodeWords (buf : List Byte) : (decodeWords buf).length = buf.length / 4 := by
  induction buf using decodeWords.induct with
  | case1 b0 b1 b2 b3 rest ih =>
    rw [decodeWords, List.length_cons, ih]
    simp only [List.length_cons]
    omega
  | case2 buf hshort =>
    rw [Nat.div_eq_of_lt (length_lt_four hshort)]
    simp [decodeWords]

theorem length_decodeHalves (buf : List Byte) : (decodeHalves buf).length = buf.length / 2 := by
  induction buf using decodeHalves.induct with
  | case1 b0 b1 rest ih =>
    rw [decodeHalves, List.length_cons, ih]
    simp only [List.length_cons]
    omega
  | case2 buf hshort =>
    rw [Nat.div_eq_of_lt (length_lt_two hshort)]
    simp [decodeHalves]

/-- Record `k` of the A32 region is the word at `4k`. -/
theorem getElem?_decodeWords {buf : List Byte} {k : Nat} (hk : k < buf.length / 4) :
    (decodeWords buf)[k]? = some (decode32 (wordAt buf (4 * k))) := by
  induction buf using decodeWords.induct generalizing k with
  | case1 b0 b1 b2 b3 rest ih =>
    cases k with
    | zero => rw [decodeWords, Nat.mul_zero, wordAt_zero, List.getElem?_cons_zero]
    | succ k =>
      have hrest : wordAt rest (4 * k) = wordAt (b0 :: b1 :: b2 :: b3 :: rest) (4 * (k + 1)) := by
        rw [Nat.mul_succ, Nat.add_comm, ← wordAt_drop]
        rfl
      rw [decodeWords, List.getElem?_cons_succ, ih (by simp only [List.length_cons] at hk; omega), hrest]
  | case2 buf hshort =>
    have := length_lt_four hshort
    omega

/-- Record `j` of the T16 region is the halfword at `2j`. -/
theorem getElem?_decodeHalves {buf : List Byte} {j : Nat} (hj : j < buf.length / 2) :
    (decodeHalves buf)[j]? = some (decode16 (halfAt buf (2 * j))) := by
  induction buf using decodeHalves.induct generalizing j with
  | case1 b0 b1 rest ih =>
    cases j with
    | zero => rw [decodeHalves, Nat.mul_zero, halfAt_zero, List.getElem?_cons_zero]
    | succ j =>
      have hrest : halfAt rest (2 * j) = halfAt (b0 :: b1 :: rest) (2 * (j + 1)) := by
        rw [Nat.mul_succ, Nat.add_comm, ← halfAt_drop]
        rfl
      rw [decodeHalves, List.getElem?_cons_succ, ih (by simp only [List.length_cons] at hj; omega), hrest]
  | case2 buf hshort =>
    have := length_lt_two hshort
    omega

/-! ### Offsets (R191) -/

/-- Records of one size take that many bytes each. -/
theorem bytesOf_of_size {rs : List Instr} {z : Size} (h : ∀ i ∈ rs, i.size = z) :
    bytesOf rs = z.bytes * rs.length := by
  induction rs with
  | nil => rfl
  | cons i rs ih =>
    obtain ⟨hi, hrs⟩ := List.forall_mem_cons.1 h
    rw [bytesOf_cons, hi, ih hrs, List.length_cons, Nat.mul_succ, Nat.add_comm]

theorem size_of_mem_decodeWords {buf : List Byte} {i : Instr} (h : i ∈ decodeWords buf) : i.size = .four := by
  obtain ⟨w, rfl⟩ := exists_decode32_of_mem_decodeWords h
  exact decode32_size w

theorem size_of_mem_decodeHalves {buf : List Byte} {i : Instr} (h : i ∈ decodeHalves buf) : i.size = .two := by
  obtain ⟨x, rfl⟩ := exists_decode16_of_mem_decodeHalves h
  exact decode16_size x

/-- The offset of an A32 record, `k` words into the image. -/
theorem offsetOf_word (bufA bufT : List Byte) {k : Nat} (hk : k ≤ (decodeWords bufA).length) :
    offsetOf (decodeWords bufA ++ decodeHalves bufT) k = 4 * k := by
  have hsize : ∀ i ∈ (decodeWords bufA).take k, i.size = .four :=
    fun i hi => size_of_mem_decodeWords (List.mem_of_mem_take hi)
  rw [offsetOf, List.take_append_of_le_length hk, bytesOf_of_size hsize, List.length_take_of_le hk, Size.bytes]

/-- The offset of a T16 record, `j` halfwords past the A32 region. -/
theorem offsetOf_half (bufA bufT : List Byte) {j : Nat} (hj : j ≤ (decodeHalves bufT).length) :
    offsetOf (decodeWords bufA ++ decodeHalves bufT) ((decodeWords bufA).length + j) =
      4 * (decodeWords bufA).length + 2 * j := by
  have hsize : ∀ i ∈ (decodeHalves bufT).take j, i.size = .two :=
    fun i hi => size_of_mem_decodeHalves (List.mem_of_mem_take hi)
  rw [offsetOf, List.take_length_add_append, bytesOf_append, bytesOf_of_size fun i hi => size_of_mem_decodeWords hi,
    bytesOf_of_size hsize, List.length_take_of_le hj, Size.bytes, Size.bytes]

/-- When the decoder answers records, the regions fit their units (R71). -/
theorem fits_of_decodeImage_ok {buf : List Byte} {a32Bytes : Nat} {rs : List Instr}
    (h : decodeImage buf a32Bytes = .ok rs) :
    a32Bytes % 4 = 0 ∧ a32Bytes ≤ buf.length ∧ (buf.length - a32Bytes) % 2 = 0 := by
  obtain ⟨-, -, hok⟩ := truncatedInputExactly buf a32Bytes
  obtain ⟨hgood, -⟩ := hok.1 ⟨rs, h⟩
  omega

/-- Settles O17: the records are the two regions' records, each region is read unit by unit, and all records before one
have their region's size. -/
theorem imageRecordsInBufferOrder : Obligations.ImageRecordsInBufferOrder := by
  intro buf a32Bytes records h nA nT
  obtain ⟨hmod, hle, -⟩ := fits_of_decodeImage_ok h
  obtain ⟨-, rfl⟩ := decodeImage_ok h
  have hA : (decodeWords (buf.take a32Bytes)).length = nA := by
    rw [length_decodeWords, List.length_take_of_le hle]
  have hT : (decodeHalves (buf.drop a32Bytes)).length = nT := by
    rw [length_decodeHalves, List.length_drop]
  have hnA : 4 * nA = a32Bytes := by omega
  refine ⟨by rw [List.length_append, hA, hT], fun k hk => ⟨?_, ?_, decode32_size _⟩,
    fun j hj => ⟨?_, ?_, decode16_size _⟩⟩
  · rw [List.getElem?_append_left (by omega), getElem?_decodeWords (by rwa [← length_decodeWords, hA]),
      wordAt_take _ (by omega)]
  · exact offsetOf_word _ _ (by omega)
  · rw [List.getElem?_append_right (by omega), hA, Nat.add_sub_cancel_left,
      getElem?_decodeHalves (by rwa [← length_decodeHalves, hT]), halfAt_drop]
  · rw [← hA, offsetOf_half _ _ (by omega), hA, hnA]

end Sys2Proof
end

section
/-! ## Data processing and its flags (40_alu.md R140 to R157) -/

namespace Sys2Proof.Machine

open Sys2Proof.Claims

/-! ### What the ALU and the flag unit compute (R140, R151, R152) -/

/-- The sum is taken on unbounded numbers and reduced (R154). -/
theorem alu_add_result (a b : Word) : (alu .add a b).result = BitVec.ofNat 32 (a.toNat + b.toNat) := rfl

/-- The difference is taken on unbounded numbers and reduced (R154). -/
theorem alu_sub_result (a b : Word) : (alu .sub a b).result = BitVec.ofInt 32 (a.toNat - b.toNat) := by
  have h : BitVec.ofInt 32 (a.toNat - b.toNat) + b = a := by
    calc BitVec.ofInt 32 (a.toNat - b.toNat) + b
        = BitVec.ofInt 32 (a.toNat - b.toNat) + BitVec.ofInt 32 b.toNat := by simp
      _ = BitVec.ofInt 32 a.toNat := by rw [← BitVec.ofInt_add, Int.sub_add_cancel]
      _ = a := by simp
  exact (BitVec.eq_sub_iff_add_eq.2 h).symm

theorem addCarry_iff (a b : Word) : addCarry a b = true ↔ a.toNat + b.toNat > 0xFFFFFFFF := decide_eq_true_iff

theorem subCarry_iff (a b : Word) : subCarry a b = true ↔ b.toNat ≤ a.toNat := decide_eq_true_iff

/-- `addV` by bit 31 (R151). -/
theorem addOverflow_iff (a b r : Word) :
    addOverflow a b r = true ↔ a.getLsbD 31 = b.getLsbD 31 ∧ r.getLsbD 31 ≠ a.getLsbD 31 := by
  simp [addOverflow, BitVec.msb_eq_getLsbD_last]

/-- `subV` by bit 31 (R152). -/
theorem subOverflow_iff (a b r : Word) :
    subOverflow a b r = true ↔ a.getLsbD 31 ≠ b.getLsbD 31 ∧ r.getLsbD 31 ≠ a.getLsbD 31 := by
  simp [subOverflow, BitVec.msb_eq_getLsbD_last]

/-- `addV` is the library's signed overflow of a sum. -/
theorem addOverflow_eq_saddOverflow (a b : Word) : addOverflow a b (a + b) = a.saddOverflow b :=
  (BitVec.saddOverflow_eq a b).symm

/-- `subV` is the library's signed overflow of a difference. -/
theorem subOverflow_eq_ssubOverflow (a b : Word) : subOverflow a b (a - b) = a.ssubOverflow b := by
  rw [BitVec.ssubOverflow_eq, subOverflow]
  cases a.msb <;> cases b.msb <;> simp

/-- Settles O20: C is the ALU's unsigned comparison, and V is the signed overflow, whose definition is on the exact
signed result. -/
theorem carryAndOverflowMeaning : Obligations.CarryAndOverflowMeaning := by
  intro a b old
  rw [flagUnit_add_c, flagUnit_add_v, flagUnit_sub_c, flagUnit_sub_v, addOverflow_eq_saddOverflow,
    subOverflow_eq_ssubOverflow]
  refine ⟨addCarry_iff a b, ?_, subCarry_iff a b, ?_⟩
  · simp [BitVec.saddOverflow, or_comm]
  · simp [BitVec.ssubOverflow, or_comm]

/-- Z and N are read off the result (R151, R152, R153). -/
theorem flagUnit_zn (out : AluOut) (old : Flags) :
    ((flagUnit out old).z = true ↔ out.result = 0) ∧ (flagUnit out old).n = out.result.getLsbD 31 :=
  ⟨beq_iff_eq, BitVec.msb_eq_getLsbD_last out.result⟩

/-- The four flags of an addition (R151). -/
theorem flagUnit_add (a b : Word) (old : Flags) :
    let r : Word := BitVec.ofNat 32 (a.toNat + b.toNat)
    let f := flagUnit (alu .add a b) old
    (f.z = true ↔ r = 0) ∧ f.n = r.getLsbD 31 ∧ (f.c = true ↔ a.toNat + b.toNat > 0xFFFFFFFF) ∧
      (f.v = true ↔ a.getLsbD 31 = b.getLsbD 31 ∧ r.getLsbD 31 ≠ a.getLsbD 31) := by
  intro r f
  obtain ⟨hz, hn⟩ := flagUnit_zn (alu .add a b) old
  exact ⟨hz, hn, addCarry_iff a b, addOverflow_iff a b r⟩

/-- The four flags of a subtraction or a comparison (R152). -/
theorem flagUnit_sub (a b : Word) (old : Flags) :
    let r : Word := BitVec.ofInt 32 (a.toNat - b.toNat)
    let f := flagUnit (alu .sub a b) old
    (f.z = true ↔ r = 0) ∧ f.n = r.getLsbD 31 ∧ (f.c = true ↔ a.toNat ≥ b.toNat) ∧
      (f.v = true ↔ a.getLsbD 31 ≠ b.getLsbD 31 ∧ r.getLsbD 31 ≠ a.getLsbD 31) := by
  intro r f
  obtain ⟨hz, hn⟩ := flagUnit_zn (alu .sub a b) old
  have hr : (alu .sub a b).result = r := alu_sub_result a b
  rw [hr] at hz hn
  exact ⟨hz, hn, subCarry_iff a b, hr ▸ subOverflow_iff a b (a - b)⟩

/-! ### The three shared operations: what each writes and what it keeps (R141, R142, R147) -/

/-- Every form of an op runs the op's rule (43_sequencer.md R194). -/
theorem exec_of_op {i : Instr} {op : Op} (h : i.op = op) (s : State) :
    exec i s = execRecord { i.record with op := op } s := by
  subst h
  exact exec_eq_execRecord i s

/-- The pc of an instruction that goes on, in the arithmetic of 10_state.md R29. -/
theorem advanced_of_pc {i : Instr} {s t : State} (h : t.pc = s.pc + BitVec.ofNat 32 i.size.bytes) :
    Advanced i s t := h.trans (add_ofNat_eq_ofNat_toNat_add s.pc _)

/-- What a change of registers, flags and pc leaves. -/
theorem restSame_with (s : State) (regs : Vector Word 16) (flags : Flags) (pc : Word) :
    RestSame s { s with regs := regs, flags := flags, pc := pc } :=
  ⟨fun _ => rfl, rfl, rfl, rfl, rfl, rfl, rfl⟩

theorem registersSameBut_setReg (s : State) (rd : Reg) (v : Word) : RegistersSameBut rd s (s.setReg rd v) :=
  fun _ hr => s.reg_setReg_other v hr

/-- A flagless data-processing record: the result, the old flags, and the frame. -/
theorem dataProcess_effect (f : AluFn) (i : Instr) (rd : Reg) (a b : Word) (s : State) :
    ∃ t, dataProcess f i.size rd a b s = .next t ∧ t.reg rd = (alu f a b).result ∧ RegistersSameBut rd s t ∧
      t.flags = s.flags ∧ Advanced i s t ∧ RestSame s t :=
  ⟨_, rfl, s.reg_setReg_same rd _, registersSameBut_setReg s rd _, rfl, advanced_of_pc rfl, restSame_with s _ _ _⟩

/-- A flag-setting data-processing record: the result, the flag unit's output, and the frame. -/
theorem dataProcessFlags_effect (f : AluFn) (i : Instr) (rd : Reg) (a b : Word) (s : State) :
    ∃ t, dataProcessFlags f i.size rd a b s = .next t ∧ t.reg rd = (alu f a b).result ∧ RegistersSameBut rd s t ∧
      t.flags = flagUnit (alu f a b) s.flags ∧ Advanced i s t ∧ RestSame s t :=
  ⟨_, rfl, s.reg_setReg_same rd _, registersSameBut_setReg s rd _, rfl, advanced_of_pc rfl, restSame_with s _ _ _⟩

/-- A comparison: the flag unit's output, and the frame. -/
theorem opCmp_effect (i : Instr) (rn : Reg) (src2 : Src2) (s : State) :
    ∃ t, opCmp i.size rn src2 s = .next t ∧ RegistersSame s t ∧
      t.flags = flagUnit (alu .sub (s.reg rn) (op2 src2 s)) s.flags ∧ Advanced i s t ∧ RestSame s t :=
  ⟨_, rfl, fun _ => rfl, rfl, advanced_of_pc rfl, restSame_with s _ _ _⟩

/-! ### Records without flags -/

/-- Settles O21: the effect of a flagless record, with the sum as the ALU's result. -/
theorem addWritesSum : Obligations.AddWritesSum := by
  intro i s rd rn src2 hop
  rw [exec_of_op hop, ← alu_add_result]
  exact dataProcess_effect .add i rd (s.reg rn) (op2 src2 s) s

/-- Settles O23: the effect of a flagless record, with the difference as the ALU's result. -/
theorem subWritesDifference : Obligations.SubWritesDifference := by
  intro i s rd rn src2 hop
  rw [exec_of_op hop, ← alu_sub_result]
  exact dataProcess_effect .sub i rd (s.reg rn) (op2 src2 s) s

/-- Settles O25: the effect of a flagless record, where PASS gives the operand back. -/
theorem movCopiesOperand : Obligations.MovCopiesOperand := by
  intro i s rd src2 hop
  rw [exec_of_op hop]
  exact dataProcess_effect .pass i rd 0 (op2 src2 s) s

/-- AND, ORR and EOR are flagless records of their ALU functions. -/
theorem exec_logical {i : Instr} {rd rn : Reg} {src2 : Src2}
    (hop : i.op = .and rd rn src2 ∨ i.op = .orr rd rn src2 ∨ i.op = .eor rd rn src2) (s : State) :
    exec i s = dataProcess (aluFn i.op) i.size rd (s.reg rn) (op2 src2 s) s := by
  obtain h | h | h := hop
  all_goals
    rw [exec_of_op h, h]
    rfl

/-- Settles O28: the effect of a flagless record, with the ALU's result read bit by bit. -/
theorem logicalOpsWriteBits : Obligations.LogicalOpsWriteBits := by
  intro i s rd rn src2 hop
  obtain ⟨t, ht, hreg, hframe⟩ := dataProcess_effect (aluFn i.op) i rd (s.reg rn) (op2 src2 s) s
  refine ⟨t, (exec_logical hop s).trans ht, fun k _ => ⟨fun h => ?_, fun h => ?_, fun h => ?_⟩, hframe⟩
  · rw [hreg, h]
    exact BitVec.getLsbD_and
  · rw [hreg, h]
    exact BitVec.getLsbD_or
  · rw [hreg, h]
    exact BitVec.getLsbD_xor

/-! ### Records with flags -/

/-- Settles O22: the effect of a flag-setting record, with the flags of an addition. -/
theorem addsWritesSumAndFlags : Obligations.AddsWritesSumAndFlags := by
  intro i s rd rn src2 hop a b r
  obtain ⟨t, ht, hreg, hother, hflags, hframe⟩ := dataProcessFlags_effect .add i rd a b s
  obtain ⟨hz, hn, hc, hv⟩ := flagUnit_add a b s.flags
  rw [← hflags] at hz hn hc hv
  exact ⟨t, (exec_of_op hop s).trans ht, hreg, hother, hz, hn, hc, hv, hframe⟩

/-- Settles O24: the effect of a flag-setting record, with the flags of a subtraction. -/
theorem subsWritesDifferenceAndFlags : Obligations.SubsWritesDifferenceAndFlags := by
  intro i s rd rn src2 hop a b r
  obtain ⟨t, ht, hreg, hother, hflags, hframe⟩ := dataProcessFlags_effect .sub i rd a b s
  obtain ⟨hz, hn, hc, hv⟩ := flagUnit_sub a b s.flags
  rw [← hflags] at hz hn hc hv
  exact ⟨t, (exec_of_op hop s).trans ht, hreg.trans (alu_sub_result a b), hother, hz, hn, hc, hv, hframe⟩

/-- Settles O26: the effect of a flag-setting record, where PASS gives the operand back and neither C nor V. -/
theorem movsCopiesOperandSetsZN : Obligations.MovsCopiesOperandSetsZN := by
  intro i s rd src2 hop r
  obtain ⟨t, ht, hreg, hother, hflags, hframe⟩ := dataProcessFlags_effect .pass i rd 0 r s
  obtain ⟨hz, hn⟩ := flagUnit_zn (alu .pass 0 r) s.flags
  have hc := flagUnit_pass_c 0 r s.flags
  have hv := flagUnit_pass_v 0 r s.flags
  rw [← hflags] at hz hn hc hv
  exact ⟨t, (exec_of_op hop s).trans ht, hreg, hother, hz, hn, hc, hv, hframe⟩

/-- Settles O27: the effect of a comparison, with the flags of a subtraction. -/
theorem cmpSetsFlagsOnly : Obligations.CmpSetsFlagsOnly := by
  intro i s rn src2 hop a b r
  obtain ⟨t, ht, hregs, hflags, hframe⟩ := opCmp_effect i rn src2 s
  obtain ⟨hz, hn, hc, hv⟩ := flagUnit_sub a b s.flags
  rw [← hflags] at hz hn hc hv
  exact ⟨t, (exec_of_op hop s).trans ht, hregs, hz, hn, hc, hv, hframe⟩

end Sys2Proof.Machine
end

section
/-! ## Loads and stores (41_load_store.md R170 to R174) -/

namespace Sys2Proof.Machine

open Sys2Proof.Claims

/-- The address of an access, in the arithmetic of R170. -/
theorem effectiveAddress_eq_ofInt (rn : Reg) (imm : Int) (s : State) :
    effectiveAddress rn imm s = BitVec.ofInt 32 ((s.reg rn).toNat + imm) := by
  rw [effectiveAddress, BitVec.ofInt_add, BitVec.ofInt_natCast, BitVec.ofNat_toNat, BitVec.setWidth_eq]

/-- A word read is the four bytes in the order of 20_memory.md R52. -/
theorem Memory.readWord_eq_littleEndian (m : Memory) (a : Nat) : m.readWord a = littleEndian m a := by
  simp only [Memory.readWord, wordOfBytes, place, littleEndian, BitVec.shiftLeft_zero]

/-! ### Accesses in range (R173, R174) -/

/-- A load in range: the word at the address, and the frame. -/
theorem opLdr_effect (i : Instr) (rd : Reg) {rn : Reg} {imm : Int} {s : State}
    (hin : inRange (effectiveAddress rn imm s) = true) :
    ∃ t, opLdr i.size rd rn imm s = .next t ∧
      t.reg rd = s.load32 (effectiveAddress rn imm s) ∧ RegistersSameBut rd s t ∧ t.flags = s.flags ∧
      Advanced i s t ∧ RestSame s t :=
  ⟨_, if_pos hin, s.reg_setReg_same rd _, registersSameBut_setReg s rd _, rfl, advanced_of_pc rfl,
    restSame_with s _ _ _⟩

/-- A store in range: the word at the address, and the frame. -/
theorem opStr_effect (i : Instr) (rd : Reg) {rn : Reg} {imm : Int} {s : State}
    (hin : inRange (effectiveAddress rn imm s) = true) :
    ∃ t, opStr i.size rd rn imm s = .next t ∧
      t.mem = s.mem.writeWord (effectiveAddress rn imm s).toNat (s.reg rd) ∧ RegistersSame s t ∧
      t.flags = s.flags ∧ Advanced i s t ∧ t.diagnostics = s.diagnostics ∧ RunSame s t :=
  ⟨_, if_pos hin, rfl, fun _ => rfl, rfl, advanced_of_pc rfl, rfl, rfl, rfl, rfl, rfl, rfl⟩

/-- Settles O29: the effect of a load in range, with the word that it reads as its four bytes. -/
theorem ldrLoadsLittleEndianWord : Obligations.LdrLoadsLittleEndianWord := by
  intro i s rd rn imm hop hle
  refine ⟨effectiveAddress_eq_ofInt rn imm s, ?_⟩
  rw [exec_of_op_ldr hop, ← Memory.readWord_eq_littleEndian]
  exact opLdr_effect i rd ((inRange_iff _).2 hle)

/-- Settles O30: the effect of a store in range, with the written memory read byte by byte. -/
theorem strStoresLittleEndianWord : Obligations.StrStoresLittleEndianWord := by
  intro i s rd rn imm hop hm hle
  obtain ⟨t, ht, hmem, hframe⟩ := opStr_effect i rd ((inRange_iff _).2 hle)
  refine ⟨effectiveAddress_eq_ofInt rn imm s, t, (exec_of_op_str hop s).trans ht, fun k hk => ?_, fun a ha => ?_,
    hframe⟩
  · rw [hmem, Memory.readByte_writeWord hm hle, if_pos (by omega), Nat.add_sub_cancel_left, wordByte]
  · rw [hmem, Memory.readByte_writeWord hm hle, if_neg (by omega)]

/-! ### Accesses out of range (R171, R172) -/

/-- An access out of range halts the run and does nothing else. -/
theorem exec_of_outOfRange {i : Instr} {rn : Reg} {imm : Int} {s : State} (hacc : accesses i.op rn imm)
    (hgt : Config.lastWordAddress < (effectiveAddress rn imm s).toNat) :
    exec i s = .next (s.halt .memoryViolation) := by
  obtain ⟨-, he⟩ | ⟨hf, -⟩ := exec_cases i s
  · exact he
  · exact absurd ((accessFaults_iff i.op s).2 ⟨rn, imm, hacc, hgt⟩) (by simp [hf])

/-- A cycle that fetches an instruction runs it. -/
theorem step_of_fetch {s : State} {i : Instr} (hr : s.runState = .running) (hc : s.cycles ≠ s.maxCycles)
    (hf : s.fetch = some i) : step s = completeCycle (exec i s) := by
  simp only [step, State.issue, hr, hc, hf, if_false]

/-- Settles O31: the executor answers the halt, and a halted run completes no cycle. -/
theorem outOfRangeAccessHalts : Obligations.OutOfRangeAccessHalts := by
  intro i s rn imm hacc hgt
  have he : exec i s = .next (s.halt .memoryViolation) := exec_of_outOfRange hacc hgt
  refine ⟨⟨_, he, rfl, rfl, fun _ => rfl, fun _ => rfl, rfl, rfl, rfl, rfl, rfl, rfl⟩, fun hr hc hf => ?_⟩
  have hs : step s = .next (s.halt .memoryViolation) := by
    rw [step_of_fetch hr hc hf, he, completeCycle_next, State.complete_halted (State.runState_halt s _)]
  exact ⟨_, hs, rfl, rfl, rfl, rfl⟩

end Sys2Proof.Machine
end

section
/-! ## Control transfer (42_branch.md R180 to R183) -/

namespace Sys2Proof.Machine

open Sys2Proof.Claims

/-! ### The four shared operations: what each writes and what it keeps -/

/-- B: the target, and the frame. -/
theorem opB_effect (offset : Int) (s : State) :
    ∃ t, opB offset s = .next t ∧ t.pc = BitVec.ofInt 32 (s.pc.toNat + offset) ∧ RegistersSame s t ∧
      t.flags = s.flags ∧ RestSame s t :=
  ⟨_, rfl, branchTarget_eq_ofInt s offset, fun _ => rfl, rfl, restSame_with s _ _ _⟩

/-- BL: the link, the target, and the frame. -/
theorem opBl_effect (offset : Int) (s : State) :
    ∃ t, opBl offset s = .next t ∧ t.reg 14 = BitVec.ofNat 32 (s.pc.toNat + 4) ∧
      t.pc = BitVec.ofInt 32 (s.pc.toNat + offset) ∧ RegistersSameBut 14 s t ∧ t.flags = s.flags ∧ RestSame s t :=
  ⟨_, rfl, (s.reg_setReg_same 14 _).trans (add_ofNat_eq_ofNat_toNat_add s.pc 4), branchTarget_eq_ofInt s offset,
    registersSameBut_setReg s 14 _, rfl, restSame_with s _ _ _⟩

/-- BX: the register's value in the pc, and the frame. -/
theorem opBx_effect (rm : Reg) (s : State) :
    ∃ t, opBx rm s = .next t ∧ t.pc = s.reg rm ∧ RegistersSame s t ∧ t.flags = s.flags ∧ RestSame s t :=
  ⟨_, rfl, rfl, fun _ => rfl, rfl, restSame_with s _ _ _⟩

/-- UNKNOWN: the report, the pc past the unit, and the frame. -/
theorem opUnknown_effect (i : Instr) (raw : Word) (s : State) :
    ∃ t, opUnknown i.size raw s = .next t ∧ t.diagnostics = s.diagnostics ++ [{ pc := s.pc, raw := raw }] ∧
      Advanced i s t ∧ RegistersSame s t ∧ t.flags = s.flags ∧ MemorySame s t ∧ RunSame s t :=
  ⟨_, rfl, rfl, advanced_of_pc rfl, fun _ => rfl, rfl, fun _ => rfl, rfl, rfl, rfl, rfl, rfl⟩

/-! ### Branches and UNKNOWN -/

/-- Settles O33: the effect of B, whose wrapped sum is the sum of integers reduced to 32 bits. -/
theorem branchAddsOffset : Obligations.BranchAddsOffset := by
  intro i s offset hop
  rw [exec_of_op hop]
  exact opB_effect offset s

/-- The rule for BL does not see the size of the record. -/
theorem execRecord_of_op_bl {r : Record} {offset : Int} (hop : r.op = .bl offset) (s : State) :
    execRecord r s = opBl offset s := by
  simp only [execRecord, hop]

/-- Settles O34: the effect of BL on a record of either size, and on the record of the one form that has this op. -/
theorem branchLinkWritesPcPlusFour : Obligations.BranchLinkWritesPcPlusFour := by
  refine ⟨fun r s offset hop => ?_, fun i s offset hop => ?_⟩
  · rw [execRecord_of_op_bl hop]
    exact opBl_effect offset s
  · rw [exec_of_op hop]
    exact opBl_effect offset s

/-- Settles O35: the effect of BX, which reads the register before it jumps. -/
theorem branchExchangeTakesRegister : Obligations.BranchExchangeTakesRegister := by
  intro i s rm hop
  rw [exec_of_op hop]
  exact opBx_effect rm s

/-- Settles O36: the effect of UNKNOWN, whose report holds the pc from before it advances. -/
theorem unknownReportsAndAdvances : Obligations.UnknownReportsAndAdvances := by
  intro i s hop
  rw [exec_of_op hop]
  exact opUnknown_effect i i.record.raw s

end Sys2Proof.Machine
end

section
/-! ## Fetch (43_sequencer.md R191, R197, R199) -/

namespace Sys2Proof.Machine

open Sys2Proof.Claims

/-! ### The offsets of a sequence (R191) -/

@[simp] theorem offsetOf_zero (rs : List Instr) : offsetOf rs 0 = 0 := rfl

@[simp] theorem offsetOf_cons_succ (i : Instr) (rs : List Instr) (k : Nat) :
    offsetOf (i :: rs) (k + 1) = i.size.bytes + offsetOf rs k := by
  rw [offsetOf, List.take_succ_cons, bytesOf_cons, offsetOf]

/-- No record is empty, so a later record stands at a greater offset. -/
theorem offsetOf_lt {rs : List Instr} {j k : Nat} (hjk : j < k) (hk : k < rs.length) :
    offsetOf rs j < offsetOf rs k := by
  induction rs generalizing j k with
  | nil => simp at hk
  | cons i rest ih =>
    obtain ⟨k, rfl⟩ := Nat.exists_eq_add_one_of_ne_zero (Nat.ne_zero_of_lt hjk)
    cases j with
    | zero =>
      rw [offsetOf_zero, offsetOf_cons_succ]
      exact Nat.add_pos_left (size_bytes_pos i.size) _
    | succ j =>
      rw [offsetOf_cons_succ, offsetOf_cons_succ]
      exact Nat.add_lt_add_left (ih (Nat.lt_of_succ_lt_succ hjk) (Nat.lt_of_succ_lt_succ hk)) _

/-- Two records never stand at the same offset. -/
theorem offsetOf_injective {rs : List Instr} {j k : Nat} (hj : j < rs.length) (hk : k < rs.length)
    (h : offsetOf rs j = offsetOf rs k) : j = k := by
  obtain hlt | heq | hgt := Nat.lt_trichotomy j k
  · exact absurd h (offsetOf_lt hlt hk).ne
  · exact heq
  · exact absurd h (offsetOf_lt hgt hj).ne'

/-! ### What the scan finds -/

/-- The scan from `off` finds the record whose offset lies `pc - off` bytes into the sequence. -/
theorem fetchFrom_eq_some_iff {rs : List Instr} {off pc : Nat} {i : Instr} :
    fetchFrom rs off pc = some i ↔ ∃ k, k < rs.length ∧ off + offsetOf rs k = pc ∧ rs[k]? = some i := by
  induction rs generalizing off with
  | nil => simp [fetchFrom]
  | cons j rest ih =>
    rw [fetchFrom]
    split
    case isTrue hpc =>
      constructor
      · intro hi
        exact ⟨0, by simp, by simpa using hpc, hi⟩
      · rintro ⟨k, hk, hoff, hi⟩
        cases k with
        | zero => exact hi
        | succ k =>
          have := size_bytes_pos j.size
          rw [offsetOf_cons_succ] at hoff
          omega
    case isFalse hpc =>
      rw [ih]
      constructor
      · rintro ⟨k, hk, hoff, hi⟩
        exact ⟨k + 1, by simpa using hk, by rw [offsetOf_cons_succ, ← Nat.add_assoc, hoff], hi⟩
      · rintro ⟨k, hk, hoff, hi⟩
        cases k with
        | zero => exact absurd hoff hpc
        | succ k => exact ⟨k, by simpa using hk, by rw [← hoff, offsetOf_cons_succ, Nat.add_assoc], hi⟩

/-- The scan of a whole sequence finds nothing where no record's offset is the pc. -/
theorem fetchFrom_eq_none {rs : List Instr} {pc : Nat} (h : ∀ k, k < rs.length → offsetOf rs k ≠ pc) :
    fetchFrom rs 0 pc = none := by
  refine Option.eq_none_iff_forall_ne_some.2 fun i hi => ?_
  obtain ⟨k, hk, hoff, -⟩ := fetchFrom_eq_some_iff.1 hi
  exact h k hk (by rwa [Nat.zero_add] at hoff)

/-- The scan of a whole sequence finds the record that stands at the pc. -/
theorem fetchFrom_of_getElem? {rs : List Instr} {k pc : Nat} {i : Instr} (hi : rs[k]? = some i)
    (hoff : offsetOf rs k = pc) : fetchFrom rs 0 pc = some i :=
  fetchFrom_eq_some_iff.2 ⟨k, (List.getElem?_eq_some_iff.1 hi).1, by rw [Nat.zero_add, hoff], hi⟩

/-- Settles O40: the scan adds the sizes of the records it passes, and sizes are positive. -/
theorem fetchFindsRecordAtOffset : Obligations.FetchFindsRecordAtOffset := by
  refine fun s => ⟨fun i => ?_, fun j k hj hk h => offsetOf_injective hj hk h⟩
  rw [State.fetch, fetchFrom_eq_some_iff]
  simp only [Nat.zero_add]

/-! ### A decoded image: each record by its place in the buffer (30_encoding.md R72 to R74) -/

section
variable {buf : List Byte} {a32Bytes pc : Nat} {rs : List Instr}

/-- The record of the word at a pc in the A32 region. -/
theorem record_of_word_pc (h : decodeImage buf a32Bytes = .ok rs) (hpc : pc < a32Bytes) (hal : pc % 4 = 0) :
    rs[pc / 4]? = some (decode32 (wordAt buf pc)) ∧ offsetOf rs (pc / 4) = pc := by
  obtain ⟨hmod, -, -⟩ := fits_of_decodeImage_ok h
  obtain ⟨-, hwords, -⟩ := imageRecordsInBufferOrder buf a32Bytes rs h
  obtain ⟨hrec, hoff, -⟩ := hwords (pc / 4) (by omega)
  rw [show 4 * (pc / 4) = pc by omega] at hrec hoff
  exact ⟨hrec, hoff⟩

/-- The record of the halfword at a pc in the T16 region. -/
theorem record_of_half_pc (h : decodeImage buf a32Bytes = .ok rs) (hge : a32Bytes ≤ pc) (hlt : pc < buf.length)
    (hal : (pc - a32Bytes) % 2 = 0) :
    rs[a32Bytes / 4 + (pc - a32Bytes) / 2]? = some (decode16 (halfAt buf pc)) ∧
      offsetOf rs (a32Bytes / 4 + (pc - a32Bytes) / 2) = pc := by
  obtain ⟨-, -, hmod⟩ := fits_of_decodeImage_ok h
  obtain ⟨-, -, hhalves⟩ := imageRecordsInBufferOrder buf a32Bytes rs h
  obtain ⟨hrec, hoff, -⟩ := hhalves ((pc - a32Bytes) / 2) (by omega)
  rw [show a32Bytes + 2 * ((pc - a32Bytes) / 2) = pc by omega] at hrec hoff
  exact ⟨hrec, hoff⟩

/-- Every record's offset is a multiple of its region's unit into the region. -/
theorem offsetOf_decodeImage (h : decodeImage buf a32Bytes = .ok rs) {k : Nat} (hk : k < rs.length) :
    (offsetOf rs k < a32Bytes ∧ offsetOf rs k % 4 = 0) ∨
    (a32Bytes ≤ offsetOf rs k ∧ offsetOf rs k < buf.length ∧ (offsetOf rs k - a32Bytes) % 2 = 0) := by
  obtain ⟨hmodA, -, -⟩ := fits_of_decodeImage_ok h
  obtain ⟨hlen, hwords, hhalves⟩ := imageRecordsInBufferOrder buf a32Bytes rs h
  by_cases hkA : k < a32Bytes / 4
  · obtain ⟨-, hoff, -⟩ := hwords k hkA
    omega
  · obtain ⟨j, rfl⟩ := Nat.exists_eq_add_of_le (Nat.not_lt.1 hkA)
    obtain ⟨-, hoff, -⟩ := hhalves j (by omega)
    omega

/-- The scan finds nothing at a pc that is in no region or is not at the start of a unit. -/
theorem fetchFrom_none_of_decodeImage (h : decodeImage buf a32Bytes = .ok rs)
    (hpc : (pc < a32Bytes ∧ pc % 4 ≠ 0) ∨ (a32Bytes ≤ pc ∧ pc < buf.length ∧ (pc - a32Bytes) % 2 ≠ 0) ∨
      buf.length ≤ pc) : fetchFrom rs 0 pc = none := by
  refine fetchFrom_eq_none fun k hk hoff => ?_
  obtain ⟨-, hle, -⟩ := fits_of_decodeImage_ok h
  have := offsetOf_decodeImage h hk
  omega

end

/-- Settles O41: on both sides of the boundary the record found by index stands at the pc, and where the comparison
finds none, no record does. -/
theorem boundaryFetchEqualsScan : Obligations.BoundaryFetchEqualsScan := by
  intro buf a32Bytes records h pc
  obtain ⟨hmod, hle, -⟩ := fits_of_decodeImage_ok h
  rw [boundaryFetch]
  split
  case isTrue hA =>
    split
    case isTrue hal =>
      obtain ⟨hrec, hoff⟩ := record_of_word_pc h hA hal
      rw [hrec, fetchFrom_of_getElem? hrec hoff]
    case isFalse hal => rw [fetchFrom_none_of_decodeImage h (.inl ⟨hA, hal⟩)]
  case isFalse hA =>
    split
    case isTrue hT =>
      split
      case isTrue hal =>
        obtain ⟨hrec, hoff⟩ := record_of_half_pc h (Nat.not_lt.1 hA) hT (by omega)
        rw [hrec, fetchFrom_of_getElem? hrec hoff]
      case isFalse hal => rw [fetchFrom_none_of_decodeImage h (by omega)]
    case isFalse hT => rw [fetchFrom_none_of_decodeImage h (.inr (.inr (Nat.not_lt.1 hT)))]

end Sys2Proof.Machine
end

section
/-! ## One cycle and whole runs (43_sequencer.md R190 to R196) -/

namespace Sys2Proof.Machine

/-! ### One cycle -/

/-- A cycle with the budget used up halts the run (R192 step 1). -/
theorem step_of_budget {s : State} (hr : s.runState = .running) (hc : s.cycles = s.maxCycles) :
    step s = .next (s.halt .boundReached) := by
  simp only [step, State.issue, hr, hc, if_true]

/-- A cycle that fetches nothing halts the run (R193). -/
theorem step_of_fetch_none {s : State} (hr : s.runState = .running) (hc : s.cycles ≠ s.maxCycles)
    (hf : s.fetch = none) : step s = .next (s.halt .outOfBounds) := by
  simp only [step, State.issue, hr, hc, hf, if_false]

/-- A HALTED machine steps to itself (R195). -/
theorem step_of_halted {s : State} (hr : s.runState = .halted) : step s = .next s := by
  simp only [step, State.issue, hr]

/-- Settles O38: the pc is at a word, at a halfword or at no record, and the fetch answers accordingly. -/
theorem stepRunsBytesAtPc : Obligations.StepRunsBytesAtPc := by
  intro buf a32Bytes s h hr hc p
  refine ⟨fun hpc hal => ?_, fun hge hlt hal => ?_, fun hpc => ?_⟩
  · obtain ⟨hrec, hoff⟩ := record_of_word_pc h hpc hal
    exact step_of_fetch hr hc (fetchFrom_of_getElem? hrec hoff)
  · obtain ⟨hrec, hoff⟩ := record_of_half_pc h hge hlt hal
    exact step_of_fetch hr hc (fetchFrom_of_getElem? hrec hoff)
  · exact step_of_fetch_none hr hc (fetchFrom_none_of_decodeImage h hpc)

/-- Settles O39: each of the two checks that precede execution halts the run with its own reason. -/
theorem budgetThenFetchEndRun : Obligations.BudgetThenFetchEndRun := fun _ hr =>
  ⟨fun hc => step_of_budget hr hc, fun hc hnone => step_of_fetch_none hr hc (fetchFrom_eq_none hnone)⟩

/-- The table word is decoded and its instruction placed. -/
theorem withFetchWord_of_decode {nbits w : Nat} {i : Instr} (h : decodeTableWord nbits w = some i) (s : State) :
    s.withFetchWord nbits w = s.placeInstr i := by
  simp only [State.withFetchWord, State.placeWord, h]

/-- The one record placed stands at offset 0, where the pc is. -/
theorem fetch_placeInstr (s : State) (i : Instr) : (s.placeInstr i).fetch = some i :=
  fetchFrom_of_getElem? (k := 0) rfl rfl

/-- A placed instruction has a cycle left to run in. -/
theorem cycles_ne_maxCycles_placeInstr (s : State) (i : Instr) :
    (s.placeInstr i).cycles ≠ (s.placeInstr i).maxCycles := by
  rw [State.cycles_placeInstr, State.maxCycles_placeInstr]
  split
  · exact Nat.ne_of_lt (Nat.lt_succ_self _)
  · assumption

/-- Settles O37: the cycle that fetches an instruction completes it, and a placed word is fetched. -/
theorem stepRunsFetchedInstruction : Obligations.StepRunsFetchedInstruction := by
  refine ⟨fun s t i hr hc hf he => ?_, fun s nbits w i hd => ?_⟩
  · rw [step_of_fetch hr hc hf, he, completeCycle_next]
    exact ⟨fun ht => by rw [State.complete_running ht], fun ht => by rw [State.complete_halted ht]⟩
  · rw [withFetchWord_of_decode hd]
    exact ⟨fetch_placeInstr s i,
      step_of_fetch rfl (cycles_ne_maxCycles_placeInstr s i) (fetch_placeInstr s i)⟩

/-- Settles O59: every arm of the executor is the rule of its record's op on the operands of the record. -/
theorem execAppliesRuleOfRecord : Obligations.ExecAppliesRuleOfRecord := exec_eq_execRecord

/-- Settles O44: run entry writes the sequencer's six fields alone. -/
theorem runEntryResetsStatusOnly : Obligations.RunEntryResetsStatusOnly := fun _ _ _ =>
  ⟨rfl, rfl, rfl, rfl, rfl, rfl, fun _ => rfl, rfl, rfl, rfl, rfl⟩

/-! ### Many cycles -/

/-- The first of `k + 1` cycles. -/
theorem stepN_succ_of_step {s t : State} (h : step s = .next t) (k : Nat) : stepN (k + 1) s = stepN k t := by
  simp only [stepN, h]

/-- Settles O42: induction on the number of steps, each of which is the step of a HALTED machine. -/
theorem haltedIsTerminal : Obligations.HaltedIsTerminal := by
  intro s k hr
  induction k with
  | zero => rfl
  | succ k ih => rw [stepN_succ_of_step (step_of_halted hr), ih]

/-- A cycle has a next state, since execution does (`exec_cases`). -/
theorem exists_step_eq_next (s : State) : ∃ t, step s = .next t := by
  obtain ⟨hr, -⟩ | ⟨hr, hc, -⟩ | ⟨hr, hc, hf, -⟩ | ⟨i, hr, hc, hf, -⟩ := issue_cases s
  · exact ⟨_, step_of_halted hr⟩
  · exact ⟨_, step_of_budget hr hc⟩
  · exact ⟨_, step_of_fetch_none hr hc hf⟩
  · rw [step_of_fetch hr hc hf]
    obtain ⟨-, he⟩ | ⟨-, he⟩ := exec_cases i s <;> exact ⟨_, congrArg completeCycle he⟩

/-- The end of a run with a given budget: HALTED, with a reason that agrees with the counter (R196). -/
def EndedWithin (budget : Nat) (t : State) : Prop :=
  t.runState = .halted ∧
    ((t.haltReason = .boundReached ∧ t.cycles = budget) ∨
     (t.haltReason = .outOfBounds ∧ t.cycles < budget) ∨
     (t.haltReason = .memoryViolation ∧ t.cycles < budget))

/-- With `n` cycles of the budget left, `n + 1` steps end the run: a step either halts it or uses one of them. -/
theorem stepN_ends {s : State} {n : Nat} (hr : s.runState = .running) (hn : s.maxCycles = s.cycles + n) :
    ∃ t, stepN (n + 1) s = .next t ∧ EndedWithin s.maxCycles t := by
  induction n generalizing s with
  | zero =>
    exact ⟨_, stepN_succ_of_step (step_of_budget hr hn.symm) 0, rfl, .inl ⟨rfl, hn.symm⟩⟩
  | succ n ih =>
    have hlt : s.cycles < s.maxCycles := by omega
    obtain ⟨t, ht⟩ := exists_step_eq_next s
    rw [stepN_succ_of_step ht]
    cases step_cases ht with
    | stay hr' => simp [hr] at hr'
    | budget _ hc => exact absurd hc hlt.ne
    | outside => exact ⟨_, haltedIsTerminal _ _ rfl, rfl, .inr (.inl ⟨rfl, hlt⟩)⟩
    | violation => exact ⟨_, haltedIsTerminal _ _ rfl, rfl, .inr (.inr ⟨rfl, hlt⟩)⟩
    | run i =>
      have hn' : s.maxCycles = s.cycles + 1 + n := by omega
      exact ih (s := { completed i.record s with cycles := s.cycles + 1 }) hr hn'

/-- A run takes its whole budget and one step more, counted from a counter of 0 (log entry 15). -/
theorem run_eq_stepN (records : List Instr) (s : State) (maxCycles : Nat) :
    run records s maxCycles = stepN (maxCycles + 1) (s.enterRun records maxCycles) := rfl

/-! ### A branch to itself -/

/-- A branch by 0 changes nothing. -/
theorem exec_of_op_b_zero {i : Instr} (hop : i.op = .b 0) (s : State) : exec i s = .next s := by
  have htarget : s.branchTarget 0 = s.pc := BitVec.add_zero _
  calc exec i s = opB 0 s := exec_of_op hop s
    _ = .next (s.jump s.pc) := by rw [opB, htarget]
    _ = .next s := rfl

/-- A cycle that runs a branch by 0 is counted and changes nothing else. -/
theorem step_of_branch_to_self {s : State} {i : Instr} (hop : i.op = .b 0) (hr : s.runState = .running)
    (hc : s.cycles ≠ s.maxCycles) (hf : s.fetch = some i) : step s = .next { s with cycles := s.cycles + 1 } := by
  rw [step_of_fetch hr hc hf, exec_of_op_b_zero hop, completeCycle_next, State.complete_running hr]

/-- With `n` cycles of the budget left, a branch by 0 at the pc uses them all, and the budget ends the run. -/
theorem stepN_of_branch_to_self {s : State} {i : Instr} {n : Nat} (hop : i.op = .b 0) (hr : s.runState = .running)
    (hf : s.fetch = some i) (hn : s.maxCycles = s.cycles + n) :
    stepN (n + 1) s = .next { s with runState := .halted, haltReason := .boundReached, cycles := s.cycles + n } := by
  induction n generalizing s with
  | zero =>
    rw [stepN_succ_of_step (step_of_budget hr hn.symm)]
    rfl
  | succ n ih =>
    have hn' : s.maxCycles = s.cycles + 1 + n := by omega
    rw [stepN_succ_of_step (step_of_branch_to_self hop hr (by omega) hf),
      ih (s := { s with cycles := s.cycles + 1 }) hr hf hn', Nat.add_right_comm, Nat.add_assoc]

/-- Settles O46: every cycle of the budget that does not halt the run uses it up by one, and a branch to itself
halts it in no cycle but the one that finds the budget used up. -/
theorem everyRunEndsWithinBudget : Obligations.EveryRunEndsWithinBudget := by
  refine ⟨fun records s maxCycles => ?_, fun i s maxCycles hop hpc => ?_⟩
  · rw [run_eq_stepN]
    exact stepN_ends rfl (Nat.zero_add maxCycles).symm
  · have hf : (s.enterRun [i] maxCycles).fetch = some i :=
      fetchFrom_of_getElem? (k := 0) rfl (by simp [hpc])
    rw [run_eq_stepN, stepN_of_branch_to_self hop rfl hf (Nat.zero_add maxCycles).symm,
      State.cycles_enterRun, Nat.zero_add]

end Sys2Proof.Machine
end

section
/-! ## What halts a run (60_exceptions.md R211, R215) -/

namespace Sys2Proof.Machine

open Sys2Proof.Claims

/-- Settles O43: a cycle that runs nothing has a next state by `step`, and one that runs a record has the next state
of the executor (`exists_step_eq_next`). -/
theorem stepAlwaysAnswersNext : Obligations.StepAlwaysAnswersNext := exists_step_eq_next

/-- Settles O58: the executor either halts on an access out of range or completes the record, and a completed record
leaves a RUNNING machine RUNNING. -/
theorem onlyLoadStoreHaltsInExecution : Obligations.OnlyLoadStoreHaltsInExecution := by
  intro i s t h hrun hhalt
  obtain ⟨hf, rfl⟩ | ⟨-, rfl⟩ := exec_next h
  · exact ⟨rfl, (accessFaults_iff i.op s).1 hf⟩
  · simp [hrun] at hhalt

end Sys2Proof.Machine
end

section
/-! ## Reset (70_reset_and_hazards.md R230) -/

namespace Sys2Proof.Machine

/-- Every byte of the data space is 0 at reset (10_state.md R45). -/
theorem Memory.readByte_reset (a : Nat) : State.reset.mem.readByte a = 0 := rfl

/-- Settles O45: registers and memory by their reads; every other item of the table in R45 is a field of the reset
state as it stands. -/
theorem resetIsZeroed : Obligations.ResetIsZeroed :=
  ⟨State.reg_reset, Memory.readByte_reset, rfl, rfl, rfl, rfl, rfl, rfl⟩

/-- Reset is RUNNING with reason NONE (10_state.md R39), with its whole budget left (R40). -/
theorem statusOk_reset : State.reset.statusOk := by
  simp [State.statusOk, State.reset]

/-- The store at reset is what the decoder gives for an empty image (30_encoding.md R71). -/
theorem storeOk_reset : State.reset.storeOk :=
  storeOk_of_decodeImage (buf := []) (a32Bytes := 0) rfl

/-- Settles O48: each part of the invariant holds at reset, and there are as many reports as cycles, none. -/
theorem resetMeetsInvariant : Obligations.ResetMeetsInvariant :=
  ⟨Memory.wf_reset, statusOk_reset, storeOk_reset, Nat.le_refl 0⟩

end Sys2Proof.Machine
end
